-- ==== Sys2Proof/Word.lean ====
section
/-! DEFINITION. The byte type of frames, transfers and requests, and its plainest arithmetic. -/

namespace Sys2Proof

/-- One byte of a frame, of a request or of a transfer. -/
abbrev Byte := BitVec 8

/-- The byte that holds a number 0..255 (larger numbers modulo 256). -/
abbrev Byte.of (n : Nat) : Byte := BitVec.ofNat 8 n

/-- A count raised by one that stops at its limit (R45, R112, R124, R134, R148). -/
def raise (limit n : Nat) : Nat := min limit (n + 1)

end Sys2Proof
end

