-- ==== Sys2Proof/Syntax.lean ====
section
/-! DEFINITION. The commands of the CT-408: one constructor for each row of spec/opcode_table.json. The rows carry no
operands of their own; each operand here is what the row's event brings from outside the part. -/

namespace Sys2Proof

/-- The two voices (06, introduction). -/
inductive VoiceId where
  | A | B
deriving DecidableEq, Repr

/-- How a frame comes to be discarded (R133). -/
inductive DiscardCause where
  /-- A stop cell was read low. -/
  | lowStopCell
  /-- Byte 2 gave a body length above 12. -/
  | overlongBody
  /-- A start cell was read high and the line stayed high for 16 cells. -/
  | silence
  /-- A start cell was read high and the line fell again within the 16 cells. -/
  | brokenSilence
  /-- The frame's bytes did not sum to 0 mod 256. -/
  | badSum
deriving DecidableEq, Repr

/-- The commands. A request carries its argument bytes as they stand in the REQUEST frame, after the request code
(R172). An end of transfer carries the bytes the bus handed over (R99). A round or beat frame carries its precedence
byte, its sender's laptop number and its body fields (Table 7-2); its sender's role is 1. -/
inductive Instr where
  /-- RESET: power-on or pin reset, with the laptop number its three pins carry (R147). -/
  | reset (laptop : BitVec 3)
  /-- SETUP with part 0 (or without a part byte, R172); `args` begins with the part byte (R173). -/
  | setup (args : List Byte)
  /-- SETUP with a part above 0; `args` begins with the part byte (R174). -/
  | setupStage (args : List Byte)
  /-- LOAD LIST, and whether the cartridge-present pin says that a cartridge is seated (R3). -/
  | loadList (seated : Bool) (args : List Byte)
  /-- START SOLO (R65). -/
  | startSolo (args : List Byte)
  /-- START CIRCLE (R154). -/
  | startCircle (args : List Byte)
  /-- END ROUND (R180). -/
  | endRound (args : List Byte)
  /-- SAY (R175). -/
  | say (args : List Byte)
  /-- SPELL (R176). -/
  | spell (args : List Byte)
  /-- STOP (R177). -/
  | stop (args : List Byte)
  /-- STATUS (R178). -/
  | status (args : List Byte)
  /-- PROGRESS (R179). -/
  | progress (args : List Byte)
  /-- EXCLUDE (R13). -/
  | exclude (args : List Byte)
  /-- ROSTER (R179). -/
  | roster (args : List Byte)
  /-- RESTART (R181). -/
  | restart (args : List Byte)
  /-- DOZE (R182). -/
  | doze (args : List Byte)
  /-- A request whose code is none of 1..14 (R172). -/
  | unknownRequest (code : Byte) (args : List Byte)
  /-- The header transfer of a load completes (R4). -/
  | headerTransfer (bytes : List Byte)
  /-- A record count byte transfer completes (R5). -/
  | countByteTransfer (count : Byte)
  /-- A record body transfer completes (R5). -/
  | bodyTransfer (bytes : List Byte)
  /-- The cartridge-present pin rises (R7). -/
  | cartridgeRemoved
  /-- A phrase directory fetch completes (R85). -/
  | phraseDirectoryFetch (bytes : List Byte)
  /-- A segment directory fetch completes (R86). -/
  | segmentDirectoryFetch (bytes : List Byte)
  /-- A ROM descriptor fetch completes (R87). -/
  | romDescriptorFetch (bytes : List Byte)
  /-- A RAM descriptor fetch completes; it copies the slot it was asked for (R99). -/
  | ramDescriptorFetch
  /-- A frame fetch completes (R111). -/
  | frameFetch (bytes : List Byte)
  /-- A frame boundary of a voice (R112). -/
  | frameBoundary (voice : VoiceId)
  /-- A sample period, with the samples that the frames now rendered on voice A and voice B give in it (R123). -/
  | samplePeriod (a b : BitVec 12)
  /-- A scan pass; bit k of `down` is set when the crossing of key k reads closed (R49). -/
  | scanPass (down : BitVec 64)
  /-- The Round Controller takes a letter key from the Key Queue (R70, R160). -/
  | letterKey
  /-- The Round Controller takes Erase (R33, R161). -/
  | eraseKey
  /-- The Round Controller takes Done (R73, R78, R161). -/
  | doneKey
  /-- The Round Controller takes Repeat (R71, R161). -/
  | repeatKey
  /-- The Round Controller takes Hint (R72, R161). -/
  | hintKey
  /-- The Round Controller takes a key it does not use (R56, R57, R58). -/
  | otherKey
  /-- The solo round timer expires (R74). -/
  | roundTimerExpiry
  /-- The circle timer expires (R169). -/
  | circleTimerExpiry
  /-- The beat timer ticks (R144). -/
  | beatTick
  /-- Roster entries whose age would reach 3 are removed (R150). -/
  | rosterAgeOut
  /-- The any-key line closes in doze (R61). -/
  | keyWake
  /-- The link falls in doze (R146). -/
  | linkWake
  /-- The settle after a wake ends (R146). -/
  | settleEnd
  /-- Another station's falling edge begins an opening low (R127, R128). -/
  | openingLow
  /-- The low under way ends before cell 12 (R127). -/
  | glitch
  /-- The receiver reads this many high cells in a row (R127). -/
  | quietGap (cells : Nat)
  /-- The transmitter has a frame ready and may begin one, or join the one under way at this cell (R128, R142). -/
  | frameOffer (cell : Nat)
  /-- The line is read low in this data cell of the frame under way (R129). -/
  | arbitrationLoss (cell : Nat)
  /-- The frame under way is discarded (R133). -/
  | frameDiscard (cause : DiscardCause)
  /-- A good BEAT frame from a part (R136, R149). -/
  | beatFrame (precedence : Byte) (laptop : BitVec 3) (identity : BitVec 16) (summary lastTag : Byte)
  /-- A good DEAL frame from a part (R156). -/
  | dealFrame (precedence : Byte) (laptop : BitVec 3) (identity : BitVec 16) (word tag count : Byte)
  /-- A good LETTER frame from a part (R162). -/
  | letterFrame (precedence : Byte) (laptop : BitVec 3) (tag position letter check : Byte)
  /-- A good CLOSE frame from a part (R167). -/
  | closeFrame (precedence : Byte) (laptop : BitVec 3) (tag count check : Byte)
  /-- The station's own REPLY frame ends good; the any-key line as it reads in that event (R143, R61). -/
  | replyFrame (anyKeyClosed : Bool)
  /-- The station's own REPORT frame ends good (R143). -/
  | reportFrame
  /-- Any other good frame: its precedence byte, kind byte and body (R136). -/
  | otherFrame (precedence kind : Byte) (body : List Byte)
  /-- A low is read in GAP WAIT (R127). -/
  | lowInGapWait
deriving DecidableEq, Repr

end Sys2Proof
end

