-- ==== Sys2Proof/Decode.lean ====
section
/-! DEFINITION. The command that a word spells. Every row of spec/opcode_table.json has an empty list of fields: the
CT-408's commands are events, and no word of bits spells one. -/

namespace Sys2Proof

/-- The command a word of the table spells: none, since no row has bits. -/
def decodeTableWord (_nbits _w : Nat) : Option Instr := none

end Sys2Proof
end

