-- ==== Sys2Proof/Config.lean ====
section
/-! DEFINITION. The numbers the manual fixes for the part: limits, phrase numbers, codes. The manual leaves no
result of any command undefined, so there is no free value here. -/

namespace Sys2Proof.Config

/-- Letters an attempt holds at most, landed and pending together (R20). -/
abbrev attemptLimit : Nat := 20
/-- Pending letters at most (R20). -/
abbrev pendingLimit : Nat := 3
/-- Codes the Key Queue holds at most (R54). -/
abbrev keyQueueLimit : Nat := 8
/-- Records the Report Queue holds at most (R183). -/
abbrev reportLimit : Nat := 16
/-- Entries a speech queue holds at most (R103). -/
abbrev speechQueueLimit : Nat := 6
/-- Contexts a resume stack holds at most (R103, R115). -/
abbrev resumeLimit : Nat := 2
/-- Frames a fetch buffer holds at most (R111). -/
abbrev bufferLimit : Nat := 2
/-- RAM descriptor slots of the Utterance Store (R93). -/
abbrev slotCount : Nat := 24
/-- Letter phrases the letter sound table has an entry for (R94). -/
abbrev letterPhrases : Nat := 52
/-- Descriptors an utterance enters at most (R90). -/
abbrev chainLimit : Nat := 16
/-- Records the Word Table holds at most, and progress entries there are (R2, R4). -/
abbrev wordLimit : Nat := 64
/-- Hints given in one round at most (R72). -/
abbrev hintLimit : Nat := 3
/-- Entries of the confusable-pair table at most (R22). -/
abbrev pairLimit : Nat := 12
/-- LETTER entries the transmit queue holds at most (R140). -/
abbrev letterEntryLimit : Nat := 3
/-- Seconds the solo round timer runs (R69). -/
abbrev roundSeconds : Nat := 60
/-- Seconds the circle timer runs (R153). -/
abbrev circleSeconds : Nat := 45
/-- High cells that make a quiet gap (R127). -/
abbrev quietCells : Nat := 16
/-- Consecutive good frames that clear a TROUBLED link (R139). -/
abbrev goodToClear : Nat := 4
/-- Beat periods a clash is held for (R137). -/
abbrev clashPeriods : Nat := 3

/-! The fixed phrases of R92. -/

abbrev phraseSpell : Nat := 53
abbrev phrasePerfect : Nat := 54
abbrev phraseClose : Nat := 55
abbrev phraseNotQuite : Nat := 56
abbrev phraseThatSpells : Nat := 57
abbrev phraseTooLate : Nat := 58
abbrev phraseTryAnother : Nat := 59
abbrev phraseCheckThatLetter : Nat := 60
abbrev phraseNoMoreHints : Nat := 61
abbrev phraseAllTheLetters : Nat := 62
abbrev phraseListenThisTime : Nat := 63
abbrev phraseRoundOver : Nat := 64
abbrev phraseSpellItFirst : Nat := 65
abbrev phraseEnoughLetters : Nat := 66
abbrev phraseOneMoreLetter : Nat := 67
abbrev phraseClick : Nat := 68
abbrev phraseBuzz : Nat := 69
abbrev phraseLinkTrouble : Nat := 70
abbrev phraseLostTheWord : Nat := 71

/-! The key codes of Table 3-1. Codes 0..25 are the letter keys. -/

abbrev keyErase : Nat := 26
abbrev keyDone : Nat := 27
abbrev keyRepeat : Nat := 28
abbrev keyHint : Nat := 29

/-! The request codes of Table 9-1 and the frame kind codes of Table 7-2. -/

abbrev codeSetup : Nat := 1
abbrev codeLoadList : Nat := 2
abbrev codeStartSolo : Nat := 3
abbrev codeStartCircle : Nat := 4
abbrev codeEndRound : Nat := 5
abbrev codeSay : Nat := 6
abbrev codeSpell : Nat := 7
abbrev codeStop : Nat := 8
abbrev codeStatus : Nat := 9
abbrev codeProgress : Nat := 10
abbrev codeExclude : Nat := 11
abbrev codeRoster : Nat := 12
abbrev codeRestart : Nat := 13
abbrev codeDoze : Nat := 14

abbrev kindBeat : Nat := 1
abbrev kindDeal : Nat := 2
abbrev kindLetter : Nat := 3
abbrev kindClose : Nat := 4
abbrev kindRequest : Nat := 5
abbrev kindReply : Nat := 6
abbrev kindReport : Nat := 7

/-- The empty descriptor address or segment start address of Tables 5-2 and 5-3. -/
abbrev emptyAddress : BitVec 24 := 0xFFFFFF

end Sys2Proof.Config
end

