-- ==== Sys2Proof/Machine/State.lean ====
section
/-! DEFINITION. Everything the manual says the part holds, block by block (00 section 2.2), as plain data, and its value
after reset. -/

namespace Sys2Proof.Machine

/-- What stops the machine: nothing. The manual gives the part no fault, so no meaning answers with one. -/
inductive Fault where
deriving DecidableEq, Repr

/-- Why a command has no meaning. -/
inductive Refusal where
  /-- Raised by `exec` for a command not modelled yet, by its mnemonic; safe, since the machine stops. No arm raises it. -/
  | notModelled (mnemonic : String)
deriving DecidableEq, Repr

/-! ## The part as a whole -/

/-- What woke the part from doze (R61, R146). -/
inductive WakeCause where
  | key | link
deriving DecidableEq, Repr

/-- Whether the part dozes or settles after a wake (R61, R146). -/
inductive Power where
  | awake
  | dozing
  | settling (cause : WakeCause)
deriving DecidableEq, Repr

/-! ## Key Scanner and Key Queue (chapter 3) -/

/-- The state the scanner holds for one key (R50). -/
inductive KeyState where
  | up | down | blocked
deriving DecidableEq, Repr

/-- One key's state and run count 0..2 (R50). -/
structure KeyCell where
  state : KeyState
  run : Nat
deriving DecidableEq, Repr

/-- The 64 keys by key code, and the Key Queue, oldest first (R50, R54). -/
structure Scanner where
  keys : List KeyCell
  queue : List Nat
deriving DecidableEq, Repr

/-! ## Word Table, List Loader, Progress Table, Exclusion Windows (chapter 1) -/

/-- The Word Table's state (R2). -/
inductive TableState where
  | empty | loading | ready
deriving DecidableEq, Repr

/-- A word of the list (01 section 1.2); its letter count is the number of its letters. -/
structure WordRecord where
  letters : List Nat
  sayPhrase : Nat
  sentence : Option Nat
  usable : Bool
deriving DecidableEq, Repr

/-- The current list; its count is the number of its records (R2). -/
structure WordTable where
  state : TableState
  identity : BitVec 16
  records : List WordRecord
deriving DecidableEq, Repr

/-- What a load awaits (01 section 1.3); the body phase holds the letter count of the record being read. -/
inductive LoadPhase where
  | header
  | countByte
  | body (letterCount : Nat)
deriving DecidableEq, Repr

/-- A load in flight (01 section 1.3, R4). What the header gives is 0 until it is read (DESIGN CHOICE, log 38). -/
structure Load where
  phase : LoadPhase
  address : Nat
  wordCount : Nat
  toTake : Nat
  cut : Bool
  identity : BitVec 16
deriving DecidableEq, Repr

/-- How a load ended (R6, Table 7-4). -/
inductive LoadOutcome where
  | absent | badMark | loaded | truncated
deriving DecidableEq, Repr

/-- A word's box 0..4 and rest 0..255 (01 section 1.5). -/
structure ProgressEntry where
  box : Nat
  rest : Nat
deriving DecidableEq, Repr

/-- An exclusion window [low, high) (01 section 1.6). -/
structure Window where
  low : Nat
  high : Nat
deriving DecidableEq, Repr

/-! ## Setup values (Table 0-4) -/

/-- The lesson style (R41 to R43). -/
inductive Style where
  | free | coached | guided
deriving DecidableEq, Repr

/-- Letters by name or by sound (R40). -/
inductive LetterVoice where
  | name | sound
deriving DecidableEq, Repr

/-- How entries are assigned to the voices (R106, R107). -/
inductive VoiceMode where
  | split | shared
deriving DecidableEq, Repr

/-- The length of a sound frame (R110). -/
inductive Rate where
  | quick | normal | slow
deriving DecidableEq, Repr

/-- The setup values but for the confusable pairs, which the Judge holds. -/
structure Setup where
  style : Style
  closeLimit : Nat
  letterVoice : LetterVoice
  voiceMode : VoiceMode
  ownPitch : Nat
  rate : Rate
  gainA : Nat
  gainB : Nat
  volume : Nat
  duck : Bool
  circle : Bool
  beat : Bool
  threshold : Nat
deriving DecidableEq, Repr

/-! ## Attempt Record and Judge (chapter 2) -/

/-- The spelling of the round in progress (Table 2-1). -/
structure Attempt where
  target : Option Nat
  landed : List Nat
  pending : List Nat
deriving DecidableEq, Repr

/-- One row: the letter it was pushed for (none for R0) and its cells 0..m (R24). -/
structure Row where
  letter : Option Nat
  cells : List Nat
deriving DecidableEq, Repr

/-- The row stack, TOP FIRST, so that R0 is last; and the confusable-pair table (R22, R24). -/
structure Judge where
  rows : List Row
  pairs : List (Nat × Nat)
deriving DecidableEq, Repr

/-- The judgment of a pushed letter (R28). -/
inductive Verdict where
  | on | near | off
deriving DecidableEq, Repr

/-- The grade of a round (R47). -/
inductive Grade where
  | perfect | close | wrong | abandoned
deriving DecidableEq, Repr

/-! ## Round Controller (chapters 4 and 8) -/

/-- The nine states of the Round Controller (00 section 3.5). -/
inductive RoundState where
  | idle | soloOpening | soloOpen | soloReview
  | circleDealing | circleOpening | circlePlayer | circleSpectator | circleLost
deriving DecidableEq, Repr

/-- The kind of an open round (R64, R153). -/
inductive RoundKind where
  | solo | circle
deriving DecidableEq, Repr

/-- A round timer: stopped, or running with the seconds it was last started with (R69, R153; time does not count down). -/
inductive Timer where
  | stopped
  | running (seconds : Nat)
deriving DecidableEq, Repr

/-- What the next Repeat says (R71). -/
inductive NextRepeat where
  | word | sentence
deriving DecidableEq, Repr

/-- The tag and word of the DEAL a dealing station has queued (R153). -/
structure DealFacts where
  tag : Nat
  word : Nat
deriving DecidableEq, Repr

/-- The Round Controller's state and facts (R64, R152, R153). The marked utterance is referred to by the number of its mark;
`marks` is the number that the next mark takes, and is the model's own (log 15). -/
structure Round where
  state : RoundState
  kind : Option RoundKind
  word : Option Nat
  tag : Option Nat
  soloTimer : Timer
  circleTimer : Timer
  hints : Nat
  nextRepeat : NextRepeat
  marked : Option Nat
  marks : Nat
  assists : Nat
  misses : Nat
  deal : Option DealFacts
  lastTag : Nat
deriving DecidableEq, Repr

/-! ## Utterance Store (chapter 5) -/

/-- A (length, segment) pair of a descriptor (Table 5-4). -/
structure Pair where
  length : Nat
  segment : Nat
deriving DecidableEq, Repr

/-- A descriptor: its pairs and its next link (Table 5-4). -/
structure Descriptor where
  pairs : List Pair
  link : Nat
deriving DecidableEq, Repr

/-- An entry of the letter sound table (R94). -/
inductive LetterEntry where
  | unread
  | none
  | sound (pair : Pair)
deriving DecidableEq, Repr

/-- The letter table read: the phrase it is at, and the descriptor address it found there, once it has (R94). -/
structure LetterRead where
  phrase : Nat
  address : Option (BitVec 24)
deriving DecidableEq, Repr

/-- The 24 RAM slots (slot n at index n−1; none is free), the letter sound table (phrase k at index k−1) and the letter
table read in flight (R93, R94). -/
structure Store where
  slots : List (Option Descriptor)
  letters : List LetterEntry
  reader : Option LetterRead
deriving DecidableEq, Repr

/-! ## Voices (chapter 6) -/

/-- Who asked for the speech (R102). -/
inductive Source where
  | own | round | peer | controller
deriving DecidableEq, Repr

/-- Where an utterance's walk begins (R102). -/
inductive StartRef where
  | phrase (p : Nat)
  | slot (n : Nat)
deriving DecidableEq, Repr

/-- A speech entry (R102). Its prompt mark, when set, bears the number by which a round refers to it (log 15). -/
structure Entry where
  source : Source
  priority : Nat
  start : StartRef
  pitch : Nat
  tag : Nat
  markNo : Option Nat
deriving DecidableEq, Repr

/-- Whether an entry carries the prompt mark (R102). -/
def Entry.mark (e : Entry) : Bool := e.markNo.isSome

/-- A descriptor reference: a ROM address or a RAM slot number (R108). -/
inductive DescRef where
  | rom (address : BitVec 24)
  | ram (slot : Nat)
deriving DecidableEq, Repr

/-- A segment directory entry as the walk uses it (R86, R88). -/
inductive SegEntry where
  | silent
  | run (start : BitVec 24) (count : Nat)
deriving DecidableEq, Repr

/-- How an utterance ended (R120, Table 7-4). -/
inductive SpokenOutcome where
  | complete | cut | dropped
deriving DecidableEq, Repr

/-- The place of a walk (R108): what it needs next, or where it stands. `descriptor` awaits a descriptor whose pairs it
will take from `pair` on, `again` when it was entered before (R117); `pairs` stands in a descriptor it has. -/
inductive WalkPlace where
  | phraseEntry (phrase : Nat)
  | descriptor (ref : DescRef) (pair : Nat) (again : Bool)
  | pairs (ref : DescRef) (desc : Descriptor) (pair frame : Nat) (seg : Option SegEntry)
  | finished (outcome : SpokenOutcome)
deriving DecidableEq, Repr

/-- The restart point (R117). -/
inductive RestartPoint where
  | start
  | pair (ref : DescRef) (chain pair : Nat)
deriving DecidableEq, Repr

/-- The context of an utterance (R108). `rendered`: a frame of it has been rendered since it started or resumed (R112);
`yielded`: its frame sequence has held a frame (R91). -/
structure Context where
  entry : Entry
  pitch : Nat
  rate : Rate
  chain : Nat
  place : WalkPlace
  restart : RestartPoint
  rendered : Bool
  yielded : Bool
deriving DecidableEq, Repr

/-- What a frame time renders: silence, or a sound frame's bytes (R110, R111). -/
inductive Sound where
  | silence
  | frame (bytes : List Byte)
deriving DecidableEq, Repr

/-- A frame in the fetch buffer, with the restart point of the pair it belongs to (R111, R117). -/
structure Fetched where
  sound : Sound
  point : RestartPoint
deriving DecidableEq, Repr

/-- A voice. It is SOUNDING when it has a current utterance (R103, R109). Its speech queue stands in the order in which
the entries joined; they are spoken in the order `speechOrder` gives (R103). Its resume stack is TOP FIRST (R115). -/
structure Voice where
  current : Option Context
  queue : List Entry
  stack : List Context
  buffer : List Fetched
  rendering : Sound
deriving DecidableEq, Repr

/-! ## Memory Port (chapter 5) -/

/-- Who asks the Memory Port for a transfer (05 section 5.5). -/
inductive Requester where
  | voice (v : VoiceId)
  | letterTable
  | loader
deriving DecidableEq, Repr

/-- The transfers of R99. -/
inductive TransferKind where
  | phraseDirectory (phrase : Nat)
  | segmentDirectory (segment : Nat)
  | romDescriptor (address : BitVec 24)
  | ramDescriptor (slot : Nat)
  | frame (address : BitVec 24)
  | header
  | countByte (address : Nat)
  | body (address length : Nat)
deriving DecidableEq, Repr

/-- The select pin a transfer drives (Table 0-3, R99). -/
inductive Select where
  | speechRom | cartridge
deriving DecidableEq, Repr

/-- A transfer asked for or in flight; `discarded` when its bytes will be thrown away at its end (R100). -/
structure Transfer where
  requester : Requester
  kind : TransferKind
  discarded : Bool
deriving DecidableEq, Repr

/-- The Memory Port: the transfer in flight and the waiting requests in grant order (R98). -/
structure Port where
  inFlight : Option Transfer
  waiting : List Transfer
deriving DecidableEq, Repr

/-! ## Mixer (chapter 6) -/

/-- The clip count 0..255 and the sample at the speaker output (R123, R124). -/
structure Mixer where
  clips : Nat
  output : Int
deriving DecidableEq, Repr

/-! ## Link Interface (chapter 7) -/

/-- The receiver's state (R127); IN FRAME with the cell it has reached, counted from the falling edge (R126). -/
inductive Receiver where
  | off
  | gapWait (count : Nat)
  | ready
  | inFrame (cell : Nat)
deriving DecidableEq, Repr

/-- The link state (R138). -/
inductive LinkState where
  | clear | troubled
deriving DecidableEq, Repr

/-- What the sender chooses of a frame: its precedence byte, kind byte and body. The body length and check bytes follow
from them (Table 7-1). -/
structure Frame where
  precedence : Byte
  kind : Byte
  body : List Byte
deriving DecidableEq, Repr

/-- The kinds of transmit queue entries (R140). -/
inductive TxKind where
  | beat | deal | letter | close
deriving DecidableEq, Repr

/-- A transmit queue entry; its round tag stands in its body (Table 7-2). `sending` marks the entry whose frame is in
flight (R135, R141). -/
structure TxEntry where
  kind : TxKind
  body : List Byte
  sending : Bool
deriving DecidableEq, Repr

/-- Where the frame in flight was taken from (R128, R142). -/
inductive TxPlace where
  | queue | answer | report
deriving DecidableEq, Repr

/-- The frame in flight (R128). The cell it has reached is the receiver's. -/
structure InFlight where
  frame : Frame
  place : TxPlace
deriving DecidableEq, Repr

/-- The Link Interface (07, introduction). The transmit queue stands oldest first. -/
structure Link where
  receiver : Receiver
  state : LinkState
  badRun : Nat
  goodCount : Nat
  clashHold : Nat
  queue : List TxEntry
  inFlight : Option InFlight
deriving DecidableEq, Repr

/-! ## Roster, Request Handler, Report Queue (chapters 8 and 9) -/

/-- A peer's entry; its laptop number is its place (R148). -/
structure RosterEntry where
  identity : Option (BitVec 16)
  age : Nat
  placed : Nat
  onLetters : Nat
  dealt : Nat
deriving DecidableEq, Repr

/-- The outcome of a request (Table 7-3). -/
inductive ReplyOutcome where
  | done | started | queued | dropped | busy | noList | noWord | refused | unknown
deriving DecidableEq, Repr

/-- A REPLY in the answer slot (R172). A STATUS REPLY's data are filled when its frame is offered (R178). -/
structure Reply where
  code : Nat
  outcome : ReplyOutcome
  adjusted : Bool
  data : List Byte
deriving DecidableEq, Repr

/-- The six sticky flags (R184). -/
structure Flags where
  keyOverrun : Bool
  reportOverflow : Bool
  requestOverrun : Bool
  numberClash : Bool
  linkTrouble : Bool
  clipped : Bool
deriving DecidableEq, Repr

/-- What a DEAL record reports (Table 7-4). -/
inductive DealOutcome where
  | dealt | outdealt | failed
deriving DecidableEq, Repr

/-- What a PEER record reports (Table 7-4). -/
inductive PeerChange where
  | joined | left
deriving DecidableEq, Repr

/-- What a LINK record reports (Table 7-4). -/
inductive LinkChange where
  | troubled | clear | clash
deriving DecidableEq, Repr

/-- The report records of Table 7-4. -/
inductive Record where
  | key (code : Nat)
  | result (kind : RoundKind) (word : Nat) (grade : Grade) (score letters assists : Nat)
  | spoken (tag : Nat) (outcome : SpokenOutcome)
  | list (outcome : LoadOutcome) (count : Nat)
  | deal (outcome : DealOutcome) (tag word : Nat)
  | peer (change : PeerChange) (laptop : Nat)
  | link (change : LinkChange)
  | woke (cause : WakeCause)
deriving DecidableEq, Repr

/-! ## The whole part -/

/-- The state of the part, and the commands that wait (`pending`, the model's own field). -/
structure State where
  pending : List Instr
  laptop : BitVec 3
  power : Power
  scanner : Scanner
  words : WordTable
  loader : Option Load
  progress : List ProgressEntry
  previous : Option Nat
  windows : List Window
  setup : Setup
  staged : List (List (Nat × Nat))
  attempt : Attempt
  judge : Judge
  round : Round
  store : Store
  voiceA : Voice
  voiceB : Voice
  underruns : Nat
  port : Port
  mixer : Mixer
  link : Link
  roster : List (Option RosterEntry)
  answer : Option Reply
  flags : Flags
  reports : List Record
deriving DecidableEq, Repr

/-! ## Field updates: one for each field (their lemmas stand in Laws/State.lean) -/

def State.setPending (s : State) (x : List Instr) : State := { s with pending := x }
def State.setLaptop (s : State) (x : BitVec 3) : State := { s with laptop := x }
def State.setPower (s : State) (x : Power) : State := { s with power := x }
def State.setScanner (s : State) (x : Scanner) : State := { s with scanner := x }
def State.setWords (s : State) (x : WordTable) : State := { s with words := x }
def State.setLoader (s : State) (x : Option Load) : State := { s with loader := x }
def State.setProgress (s : State) (x : List ProgressEntry) : State := { s with progress := x }
def State.setPrevious (s : State) (x : Option Nat) : State := { s with previous := x }
def State.setWindows (s : State) (x : List Window) : State := { s with windows := x }
def State.setSetup (s : State) (x : Setup) : State := { s with setup := x }
def State.setStaged (s : State) (x : List (List (Nat × Nat))) : State := { s with staged := x }
def State.setAttempt (s : State) (x : Attempt) : State := { s with attempt := x }
def State.setJudge (s : State) (x : Judge) : State := { s with judge := x }
def State.setRound (s : State) (x : Round) : State := { s with round := x }
def State.setStore (s : State) (x : Store) : State := { s with store := x }
def State.setVoiceA (s : State) (x : Voice) : State := { s with voiceA := x }
def State.setVoiceB (s : State) (x : Voice) : State := { s with voiceB := x }
def State.setUnderruns (s : State) (x : Nat) : State := { s with underruns := x }
def State.setPort (s : State) (x : Port) : State := { s with port := x }
def State.setMixer (s : State) (x : Mixer) : State := { s with mixer := x }
def State.setLink (s : State) (x : Link) : State := { s with link := x }
def State.setRoster (s : State) (x : List (Option RosterEntry)) : State := { s with roster := x }
def State.setAnswer (s : State) (x : Option Reply) : State := { s with answer := x }
def State.setFlags (s : State) (x : Flags) : State := { s with flags := x }
def State.setReports (s : State) (x : List Record) : State := { s with reports := x }

/-! ## Values after reset -/

/-- The six default confusable pairs (R22, R174): B-D, P-Q, M-N, C-K, S-Z, U-V. -/
def defaultPairs : List (Nat × Nat) := [(2, 4), (16, 17), (13, 14), (3, 11), (19, 26), (21, 22)]

/-- The staged parts after reset (R174). -/
def defaultStaged : List (List (Nat × Nat)) := [defaultPairs.take 4, defaultPairs.drop 4, [], []]

/-- The defaults of Table 0-4. -/
def Setup.default : Setup where
  style := .coached
  closeLimit := 2
  letterVoice := .name
  voiceMode := .split
  ownPitch := 2
  rate := .normal
  gainA := 16
  gainB := 16
  volume := 6
  duck := true
  circle := true
  beat := true
  threshold := 6

/-- The Round Controller after reset (R64, R152, R153). -/
def Round.reset : Round where
  state := .idle
  kind := none
  word := none
  tag := none
  soloTimer := .stopped
  circleTimer := .stopped
  hints := 0
  nextRepeat := .word
  marked := none
  marks := 0
  assists := 0
  misses := 0
  deal := none
  lastTag := 0

/-- A QUIET voice with nothing waiting (R119). -/
def Voice.quiet : Voice where
  current := none
  queue := []
  stack := []
  buffer := []
  rendering := .silence

/-- A key that is UP with run count 0 (R63). -/
def KeyCell.up : KeyCell where
  state := .up
  run := 0

/-- All sticky flags clear (R184). -/
def Flags.clear : Flags where
  keyOverrun := false
  reportOverflow := false
  requestOverrun := false
  numberClash := false
  linkTrouble := false
  clipped := false

/-- The state right after reset with the laptop number its pins carry (R147 and the tables of values after reset). The
letter table read has asked for its first directory fetch, which the free port granted at once (R94, R98). -/
def State.resetWith (laptop : BitVec 3) : State where
  pending := []
  laptop := laptop
  power := .awake
  scanner := { keys := List.replicate 64 KeyCell.up, queue := [] }
  words := { state := .empty, identity := 0, records := [] }
  loader := none
  progress := List.replicate 64 { box := 0, rest := 0 }
  previous := none
  windows := List.replicate 4 { low := 0, high := 0 }
  setup := Setup.default
  staged := defaultStaged
  attempt := { target := none, landed := [], pending := [] }
  judge := { rows := [], pairs := defaultPairs }
  round := Round.reset
  store := { slots := List.replicate 24 none, letters := List.replicate 52 .unread,
             reader := some { phrase := 1, address := none } }
  voiceA := Voice.quiet
  voiceB := Voice.quiet
  underruns := 0
  port := { inFlight := some { requester := .letterTable, kind := .phraseDirectory 1, discarded := false },
            waiting := [] }
  mixer := { clips := 0, output := 0 }
  link := { receiver := .gapWait 0, state := .clear, badRun := 0, goodCount := 0, clashHold := 0, queue := [],
            inFlight := none }
  roster := List.replicate 8 none
  answer := none
  flags := Flags.clear
  reports := []

/-- The state right after reset. The laptop number is read from the pins at each RESET command; here, before any, it is 0
(DESIGN CHOICE, log 10; unsafe: a claim could rest on it). -/
def State.reset : State := State.resetWith 0

end Sys2Proof.Machine
end

