-- ==== Sys2Proof/Machine/Operands.lean ====
section
/-! DEFINITION. How the bytes of requests, transfers and frames are read and written: byte order, clamping, argument
matching, descriptors, word records, setup values. -/

namespace Sys2Proof.Machine

open Sys2Proof

/-! ## Bytes -/

/-- Byte i of a list as a number; a byte that is not there is 0 (R172 for arguments; log 28 for transfers). -/
def byteAt (bytes : List Byte) (i : Nat) : Nat := (bytes.getD i 0).toNat

/-- Two bytes, high byte first (01 section 1.1, 05 section 5.1, Table 7-2). -/
def word16At (bytes : List Byte) (i : Nat) : Nat := byteAt bytes i * 256 + byteAt bytes (i + 1)

/-- Three bytes, high byte first (05 section 5.1). -/
def addressAt (bytes : List Byte) (i : Nat) : BitVec 24 :=
  BitVec.ofNat 24 (byteAt bytes i * 65536 + byteAt bytes (i + 1) * 256 + byteAt bytes (i + 2))

/-- The two bytes of a 16-bit number, high byte first. -/
def bytes16 (x : BitVec 16) : List Byte := [Byte.of (x.toNat / 256), Byte.of (x.toNat % 256)]

/-! ## Arguments of a request (R172) -/

/-- The nearer end of a range, or the value itself. -/
def clamp (low high n : Nat) : Nat := max low (min high n)

/-- Whether clamping changes the value. -/
def clamped (low high n : Nat) : Bool := clamp low high n != n

/-- Whether an argument byte that Table 9-1 calls for is missing, or one beyond those it allows is there (R172). -/
def countAdjusted (allowed : Nat) (args : List Byte) : Bool := args.length != allowed

/-- The letter codes of a SETUP part 1..4 as pairs; an odd trailing code is not read (R174). -/
def pairsOf : List Byte → List (Nat × Nat)
  | a :: b :: rest => (a.toNat, b.toNat) :: pairsOf rest
  | _ => []

/-- The pairs a SETUP part 1..4 carries: at most eight letter codes are read (R174). -/
def stagedPairs (args : List Byte) : List (Nat × Nat) := pairsOf (args.tail.take 8)

/-- Whether the argument bytes of a SETUP differ from what Table 9-1 allows for its part: for part 0 the part byte and
nine values; for a part 1..4 an odd trailing byte, or a byte after the eighth letter code (R172, R174). -/
def setupCountAdjusted (part : Nat) (args : List Byte) : Bool :=
  if part = 0 then countAdjusted 10 args
  else (args.length - 1) % 2 == 1 || decide (8 < args.length - 1)

/-- Style coded FREE 0, COACHED 1, GUIDED 2 (R173). -/
def styleOf (n : Nat) : Style := match n with | 0 => .free | 1 => .coached | _ => .guided

/-- Rate coded QUICK 0, NORMAL 1, SLOW 2 (R173). -/
def rateOf (n : Nat) : Rate := match n with | 0 => .quick | 1 => .normal | _ => .slow

/-- The setup values of a SETUP part 0, from the nine bytes after the part byte, each clamped to its range (R173). -/
def setupOf (args : List Byte) : Setup where
  style := styleOf (clamp 0 2 (byteAt args 1))
  closeLimit := clamp 1 4 (byteAt args 2)
  ownPitch := clamp 0 7 (byteAt args 3)
  rate := rateOf (clamp 0 2 (byteAt args 4))
  gainA := clamp 0 16 (byteAt args 5)
  gainB := clamp 0 16 (byteAt args 6)
  volume := clamp 0 8 (byteAt args 7)
  threshold := clamp 4 15 (byteAt args 8)
  letterVoice := if (byteAt args 9).testBit 0 then .sound else .name
  voiceMode := if (byteAt args 9).testBit 1 then .shared else .split
  duck := (byteAt args 9).testBit 2
  circle := (byteAt args 9).testBit 3
  beat := (byteAt args 9).testBit 4

/-- Whether a value of a SETUP part 0 lies outside its range (R173). -/
def setupClamped (args : List Byte) : Bool :=
  clamped 0 2 (byteAt args 1) || clamped 1 4 (byteAt args 2) || clamped 0 7 (byteAt args 3) ||
  clamped 0 2 (byteAt args 4) || clamped 0 16 (byteAt args 5) || clamped 0 16 (byteAt args 6) ||
  clamped 0 8 (byteAt args 7) || clamped 4 15 (byteAt args 8)

/-! ## The cartridge list (Tables 1-1 and 1-2) -/

/-- Whether the header's mark is 0xC7 followed by 0x3A (R4). -/
def headerMarkGood (bytes : List Byte) : Bool := byteAt bytes 0 == 0xC7 && byteAt bytes 1 == 0x3A

/-- The header's list identity, taken whole (R1). -/
def headerIdentity (bytes : List Byte) : BitVec 16 := BitVec.ofNat 16 (word16At bytes 2)

/-- The header's word count (Table 1-1). -/
def headerCount (bytes : List Byte) : Nat := byteAt bytes 4

/-- The sentence-phrase field: a number 0..511, and anything else is absent (R1). -/
def sentenceOf (field : Nat) : Option Nat := if field ≤ 511 then some field else none

/-- Whether a letter code lies in 1..26 (R5). -/
def letterCode (n : Nat) : Bool := decide (1 ≤ n ∧ n ≤ 26)

/-- The letter codes of a record body, the first m bytes as read (R1). -/
def bodyLetters (m : Nat) (bytes : List Byte) : List Nat := (List.range m).map (byteAt bytes)

/-- The word record of a body of m + 4 bytes (R1, R5). -/
def recordOf (m : Nat) (bytes : List Byte) : WordRecord where
  letters := bodyLetters m bytes
  sayPhrase := word16At bytes m % 512
  sentence := sentenceOf (word16At bytes (m + 2))
  usable := (bodyLetters m bytes).all letterCode

/-! ## The speech ROM (Tables 5-2 to 5-4) -/

/-- Pair i, counting from 0, of a ROM descriptor; its segment field is taken mod 1024 (R87). -/
def pairAt (bytes : List Byte) (i : Nat) : Pair where
  length := byteAt bytes (3 * i)
  segment := word16At bytes (3 * i + 1) % 1024

/-- A ROM descriptor; its next link is taken mod 512 (R87). -/
def descriptorOf (bytes : List Byte) : Descriptor where
  pairs := (List.range 6).map (pairAt bytes)
  link := word16At bytes 18 % 512

/-- A segment directory entry; empty, and so heard as silence, when its start is 0xFFFFFF or its count 0 (R86, R88). -/
def segEntryOf (bytes : List Byte) : SegEntry :=
  if addressAt bytes 0 = Config.emptyAddress ∨ word16At bytes 3 = 0 then .silent
  else .run (addressAt bytes 0) (word16At bytes 3)

/-- The address of frame i of a segment: 24 bytes for each frame, addresses being 24 bits wide (05 section 5.1). -/
def frameAddress (start : BitVec 24) (i : Nat) : BitVec 24 := start + BitVec.ofNat 24 (24 * i)

/-- The letter sound table entry a first descriptor gives: its first pair with a length of 1 or more and a segment of
1..1023, or none (R94). -/
def letterEntryOf (d : Descriptor) : LetterEntry :=
  match d.pairs.find? (fun p => decide (1 ≤ p.length ∧ 1 ≤ p.segment)) with
  | some p => .sound p
  | none => .none

/-! ## Phrases -/

/-- The phrase of a letter under a letter voice: its code with NAME, its code plus 26 with SOUND (R40). -/
def letterPhrase (v : LetterVoice) (letter : Nat) : Nat :=
  match v with
  | .name => letter
  | .sound => letter + 26

end Sys2Proof.Machine
end

