-- ==== Sys2Proof/Machine/Flags.lean ====
section
/-! DEFINITION. The coded bytes of Tables 7-3 and 7-4, the sticky flags byte, the summary byte, and the data bytes of
records and replies. -/

namespace Sys2Proof.Machine

open Sys2Proof

/-- A flag as a number. -/
def bit (b : Bool) : Nat := if b then 1 else 0

/-- Round Controller state codes (Table 7-3). -/
def RoundState.code : RoundState → Nat
  | .idle => 0 | .soloOpening => 1 | .soloOpen => 2 | .soloReview => 3 | .circleDealing => 4
  | .circleOpening => 5 | .circlePlayer => 6 | .circleSpectator => 7 | .circleLost => 8

/-- Word Table state codes (Table 7-3). -/
def TableState.code : TableState → Nat
  | .empty => 0 | .loading => 1 | .ready => 2

/-- Link state codes (Table 7-3). -/
def LinkState.code : LinkState → Nat
  | .clear => 0 | .troubled => 1

/-- Outcome codes (Table 7-3). -/
def ReplyOutcome.code : ReplyOutcome → Nat
  | .done => 0 | .started => 1 | .queued => 2 | .dropped => 3 | .busy => 4 | .noList => 5 | .noWord => 6
  | .refused => 7 | .unknown => 8

/-- The outcome byte of a REPLY: the outcome code, plus 128 when the adjusted flag is set (Table 7-3). -/
def Reply.outcomeByte (r : Reply) : Byte := Byte.of (r.outcome.code + 128 * bit r.adjusted)

/-- The flags byte of a STATUS REPLY (R178). -/
def Flags.byte (f : Flags) : Byte :=
  Byte.of (bit f.keyOverrun + 2 * bit f.reportOverflow + 4 * bit f.requestOverrun + 8 * bit f.numberClash +
    16 * bit f.linkTrouble + 32 * bit f.clipped)

/-- The summary byte of a BEAT (R144). -/
def summaryByte (s : State) : Byte :=
  Byte.of (s.round.state.code * 16 + s.words.state.code * 4 + s.link.state.code * 2 + bit s.setup.circle)

/-- The seven data bytes of a STATUS REPLY, from the values of this moment (R178). -/
def statusData (s : State) : List Byte :=
  [Byte.of s.round.state.code, Byte.of s.words.state.code, Byte.of s.words.records.length,
   Byte.of s.link.state.code, s.flags.byte, Byte.of s.mixer.clips, Byte.of s.underruns]

/-- Codes of a RESULT record's round kind (Table 7-4). -/
def RoundKind.code : RoundKind → Nat
  | .solo => 0 | .circle => 1

/-- Grade codes (Table 7-4). -/
def Grade.code : Grade → Nat
  | .perfect => 0 | .close => 1 | .wrong => 2 | .abandoned => 3

/-- SPOKEN outcome codes (Table 7-4). -/
def SpokenOutcome.code : SpokenOutcome → Nat
  | .complete => 0 | .cut => 1 | .dropped => 2

/-- LIST outcome codes (Table 7-4). -/
def LoadOutcome.code : LoadOutcome → Nat
  | .absent => 0 | .badMark => 1 | .loaded => 2 | .truncated => 3

/-- DEAL outcome codes (Table 7-4). -/
def DealOutcome.code : DealOutcome → Nat
  | .dealt => 0 | .outdealt => 1 | .failed => 2

/-- PEER change codes (Table 7-4). -/
def PeerChange.code : PeerChange → Nat
  | .joined => 0 | .left => 1

/-- LINK change codes (Table 7-4). -/
def LinkChange.code : LinkChange → Nat
  | .troubled => 0 | .clear => 1 | .clash => 2

/-- WOKE cause codes (Table 7-4). -/
def WakeCause.code : WakeCause → Nat
  | .key => 0 | .link => 1

/-- The body of a REPORT frame: the record kind and its data bytes (Table 7-4). -/
def Record.body : Record → List Byte
  | .key code => [Byte.of 1, Byte.of code]
  | .result kind word grade score letters assists =>
    [Byte.of 2, Byte.of kind.code, Byte.of word, Byte.of grade.code, Byte.of score, Byte.of letters, Byte.of assists]
  | .spoken tag outcome => [Byte.of 3, Byte.of tag, Byte.of outcome.code]
  | .list outcome count => [Byte.of 4, Byte.of outcome.code, Byte.of count]
  | .deal outcome tag word => [Byte.of 5, Byte.of outcome.code, Byte.of tag, Byte.of word]
  | .peer change laptop => [Byte.of 6, Byte.of change.code, Byte.of laptop]
  | .link change => [Byte.of 7, Byte.of change.code]
  | .woke cause => [Byte.of 8, Byte.of cause.code]

/-- The body of a REPLY frame: request code, outcome byte, data bytes; a STATUS REPLY's data are those of the moment it
is offered (R172, R178). -/
def replyBody (r : Reply) (s : State) : List Byte :=
  [Byte.of r.code, r.outcomeByte] ++ (if r.code = Config.codeStatus then statusData s else r.data)

end Sys2Proof.Machine
end

