-- ==== Sys2Proof/Machine/Ops.lean ====
section
/-! DEFINITION. Shared operations on the smaller blocks: Report Queue, sticky flags, Utterance Store slots, Memory Port,
Key Queue, transmit queue, Roster. -/

namespace Sys2Proof.Machine

open Sys2Proof

/-! ## Report Queue and flags -/

/-- Posts a record: it joins the tail, or is dropped with REPORT_OVERFLOW when the queue holds 16 (R183). -/
def State.post (s : State) (r : Record) : State :=
  if s.reports.length < Config.reportLimit then s.setReports (s.reports ++ [r])
  else s.setFlags { s.flags with reportOverflow := true }

/-- Posts a KEY record (R59). -/
def State.forwardKey (s : State) (code : Nat) : State := s.post (.key code)

/-! ## Setters inside a block -/

/-- Puts the Round Controller in a state. -/
def State.setRoundState (s : State) (x : RoundState) : State := s.setRound { s.round with state := x }

/-- Puts the receiver in a state (R127). -/
def State.setReceiver (s : State) (x : Receiver) : State := s.setLink { s.link with receiver := x }

/-- Sets the row stack (R24). -/
def State.setRows (s : State) (rows : List Row) : State := s.setJudge { s.judge with rows := rows }

/-- Sets the miss count (R44). -/
def State.setMisses (s : State) (n : Nat) : State := s.setRound { s.round with misses := n }

/-- A voice by its name. -/
def State.voice (s : State) : VoiceId → Voice
  | .A => s.voiceA
  | .B => s.voiceB

/-- Replaces a voice. -/
def State.setVoice (s : State) (v : VoiceId) (x : Voice) : State :=
  match v with
  | .A => s.setVoiceA x
  | .B => s.setVoiceB x

/-! ## Utterance Store slots -/

/-- The descriptor of slot n, 1..24, when the slot is held (R93). -/
def Store.slot (st : Store) (n : Nat) : Option Descriptor :=
  if n = 0 then none else (st.slots[n - 1]?).join

/-- The free slots, lowest number first (R95). -/
def Store.freeSlots (st : Store) : List Nat :=
  (List.range' 1 Config.slotCount).filter (fun n => (st.slot n).isNone)

/-- The slots of the chain that begins at slot n, by next links (R93); `fuel` bounds its length. -/
def Store.chain (st : Store) : (fuel n : Nat) → List Nat
  | 0, _ => []
  | fuel + 1, n =>
    match st.slot n with
    | none => []
    | some d => n :: (if d.link = 0 then [] else st.chain fuel d.link)

/-- Writes a slot (R95), or frees it (R97). -/
def Store.write (st : Store) (n : Nat) (d : Option Descriptor) : Store :=
  if n = 0 then st else { st with slots := st.slots.set (n - 1) d }

/-- Frees slots. -/
def Store.free (st : Store) (ns : List Nat) : Store := ns.foldl (fun st n => st.write n none) st

/-- Frees all the slots of a composed utterance, those of the chain of its head slot (R97). -/
def State.freeUtterance (s : State) (start : StartRef) : State :=
  match start with
  | .phrase _ => s
  | .slot n => s.setStore (s.store.free (s.store.chain Config.slotCount n))

/-! ## Memory Port -/

/-- The select a transfer drives on the memory bus; a RAM descriptor fetch drives neither (R99). -/
def TransferKind.select : TransferKind → Option Select
  | .phraseDirectory _ | .segmentDirectory _ | .romDescriptor _ | .frame _ => some .speechRom
  | .ramDescriptor _ => none
  | .header | .countByte _ | .body _ _ => some .cartridge

/-- The bytes a transfer hands over (R99, R3 to R5). -/
def TransferKind.size : TransferKind → Nat
  | .phraseDirectory _ => 3
  | .segmentDirectory _ => 5
  | .romDescriptor _ | .ramDescriptor _ => 20
  | .frame _ => 24
  | .header => 5
  | .countByte _ => 1
  | .body _ n => n

/-- The address a transfer begins at, in the memory it selects; a RAM descriptor fetch's is its slot (R85, R86, R99). -/
def TransferKind.address : TransferKind → Nat
  | .phraseDirectory p => 3 * p
  | .segmentDirectory n => 1536 + 5 * n
  | .romDescriptor a | .frame a => a.toNat
  | .ramDescriptor n => n
  | .header => 0
  | .countByte a | .body a _ => a

/-- Where a request stands in the grant order (R98): voice A's frame fetches, voice B's frame fetches, then directory
and descriptor fetches of voice A, of voice B and of the letter table read, then the List Loader. -/
def Transfer.order (t : Transfer) : Nat :=
  match t.requester, t.kind with
  | .voice .A, .frame _ => 0
  | .voice .B, .frame _ => 1
  | .voice .A, _ => 2
  | .voice .B, _ => 3
  | .letterTable, _ => 4
  | .loader, _ => 5

/-- Puts a request among the waiting ones, behind every one granted before it (R98). -/
def insertTransfer (t : Transfer) : List Transfer → List Transfer
  | [] => [t]
  | u :: us => if t.order < u.order then t :: u :: us else u :: insertTransfer t us

/-- A request of a requester joins the waiting requests; the arbiter grants at the end of the event (log 25). -/
def State.ask (s : State) (r : Requester) (kind : TransferKind) : State :=
  s.setPort { s.port with
    waiting := insertTransfer { requester := r, kind := kind, discarded := false } s.port.waiting }

/-- Whether a requester has a transfer waiting or in flight (R98). -/
def State.hasTransfer (s : State) (r : Requester) : Bool :=
  s.port.inFlight.any (fun t => t.requester == r) || s.port.waiting.any (fun t => t.requester == r)

/-- The arbiter: a free port grants the waiting request that comes first (R98). -/
def State.grant (s : State) : State :=
  match s.port.inFlight, s.port.waiting with
  | none, t :: rest => s.setPort { inFlight := some t, waiting := rest }
  | _, _ => s

/-- A requester's request loses its purpose: waiting, it is withdrawn; in flight, its bytes will be thrown away (R100). -/
def State.withdraw (s : State) (r : Requester) : State :=
  s.setPort {
    inFlight := s.port.inFlight.map (fun t => if t.requester = r then { t with discarded := true } else t)
    waiting := s.port.waiting.filter (fun t => t.requester != r) }

/-- The transfer in flight ends: the port no longer carries it; it is granted again at the end of the event (R99). -/
def State.transferEnds (s : State) : State := s.setPort { s.port with inFlight := none }

/-! ## Key Queue -/

/-- A code offered to the Key Queue: appended, or dropped with KEY_OVERRUN when the queue holds 8 (R54). -/
def State.offerKey (s : State) (code : Nat) : State :=
  if s.scanner.queue.length < Config.keyQueueLimit then
    s.setScanner { s.scanner with queue := s.scanner.queue ++ [code] }
  else s.setFlags { s.flags with keyOverrun := true }

/-! ## Transmit queue -/

/-- The entries of a kind in the transmit queue. -/
def Link.countKind (l : Link) (k : TxKind) : Nat := (l.queue.filter (fun e => e.kind == k)).length

/-- How many entries of a kind the transmit queue may hold (R140). -/
def TxKind.limit : TxKind → Nat
  | .letter => Config.letterEntryLimit
  | _ => 1

/-- Queues a DEAL, LETTER or CLOSE entry at the tail; one offered at its kind's limit is discarded (R140). -/
def State.queueFrame (s : State) (k : TxKind) (body : List Byte) : State :=
  if s.link.countKind k < k.limit then
    s.setLink { s.link with queue := s.link.queue ++ [{ kind := k, body := body, sending := false }] }
  else s

/-- Queues a BEAT at the tail; it replaces one already queued (R140). -/
def State.queueBeat (s : State) (body : List Byte) : State :=
  s.setLink { s.link with
    queue := s.link.queue.filter (fun e => e.kind != .beat) ++ [{ kind := .beat, body := body, sending := false }] }

/-- Removes the entries of a kind (R141). Their frame, if in flight, goes on without them. -/
def State.removeKind (s : State) (k : TxKind) : State :=
  s.setLink { s.link with queue := s.link.queue.filter (fun e => e.kind != k) }

/-- Removes the station's own LETTER and CLOSE entries (R164, R166, R167, R170, R171). -/
def State.removeRoundFrames (s : State) : State := (s.removeKind .letter).removeKind .close

/-- Empties the transmit queue (R145, R181). -/
def State.emptyQueue (s : State) : State := s.setLink { s.link with queue := [] }

/-! ## Roster -/

/-- The entry at a laptop number's place (R148). -/
def rosterAt (roster : List (Option RosterEntry)) (laptop : Nat) : Option RosterEntry := (roster[laptop]?).join

/-- The entries in increasing laptop number, with their numbers (R148). -/
def rosterEntries (roster : List (Option RosterEntry)) : List (Nat × RosterEntry) :=
  (List.range roster.length).filterMap (fun n => (rosterAt roster n).map (fun e => (n, e)))

/-- Replaces the entry at a place, if it holds one. -/
def State.updatePeer (s : State) (laptop : Nat) (f : RosterEntry → RosterEntry) : State :=
  match rosterAt s.roster laptop with
  | some e => s.setRoster (s.roster.set laptop (some (f e)))
  | none => s

/-- A good frame of a peer part is heard: its entry is made, with a PEER JOINED record, or its age becomes 0 (R149). -/
def State.heardPeer (s : State) (laptop : Nat) : State :=
  match rosterAt s.roster laptop with
  | some e => s.setRoster (s.roster.set laptop (some { e with age := 0 }))
  | none =>
    (s.setRoster (s.roster.set laptop
      (some { identity := none, age := 0, placed := 0, onLetters := 0, dealt := 0 }))).post (.peer .joined laptop)

/-- A peer's letter has landed here, ON or not (R151). -/
def State.tallyLetter (s : State) (laptop : Nat) (on : Bool) : State :=
  s.updatePeer laptop (fun e =>
    { e with placed := raise 255 e.placed, onLetters := if on then raise 255 e.onLetters else e.onLetters })

/-- The laptop numbers of the entries whose age would reach 3 at a tick, in increasing order (R150). -/
def agedOut (roster : List (Option RosterEntry)) : List Nat :=
  ((rosterEntries roster).filter (fun p => decide (2 ≤ p.2.age))).map (·.1)

/-- Removes the entries whose age would reach 3, and posts their PEER LEFT records (R150). -/
def State.removeAged (s : State) : State :=
  (agedOut s.roster).foldl (fun s n => s.post (.peer .left n))
    (s.setRoster (s.roster.map (fun e => e.filter (fun e => decide (e.age < 2)))))

/-- Raises the age of every entry by 1. -/
def State.ageRoster (s : State) : State :=
  s.setRoster (s.roster.map (fun e => e.map (fun e => { e with age := e.age + 1 })))

end Sys2Proof.Machine
end

