-- ==== Sys2Proof/Machine/JudgeOps.lean ====
section
/-! DEFINITION. The Attempt Record and the Judge (chapter 2): substitution costs, rows, push, pop, verdict, score, grade
and hint letter; the confusable-pair table; and the word choice of chapter 1. -/

namespace Sys2Proof.Machine

open Sys2Proof

/-! ## Confusable pairs (R22) -/

/-- Whether the pair x, y is in a table, in either order. -/
def pairIn (table : List (Nat × Nat)) (x y : Nat) : Bool := table.contains (x, y) || table.contains (y, x)

/-- The substitution cost of two letter codes (R22). -/
def sub (table : List (Nat × Nat)) (x y : Nat) : Nat :=
  if x = y then 0 else if pairIn table x y then 1 else 2

/-- Offers one pair to a new table: its letters are clamped to 1..26; equal letters, a repeat, or a full table drop it.
The flag says whether a letter was clamped or a pair dropped (R22). -/
def offerPair (acc : List (Nat × Nat) × Bool) (p : Nat × Nat) : List (Nat × Nat) × Bool :=
  let a := clamp 1 26 p.1
  let b := clamp 1 26 p.2
  let moved := acc.2 || clamped 1 26 p.1 || clamped 1 26 p.2
  if a = b ∨ pairIn acc.1 a b = true ∨ Config.pairLimit ≤ acc.1.length then (acc.1, true)
  else (acc.1 ++ [(a, b)], moved)

/-- The table formed from the offered pairs, and whether any was clamped or dropped (R22). -/
def formPairs (offered : List (Nat × Nat)) : List (Nat × Nat) × Bool := offered.foldl offerPair ([], false)

/-! ## Rows (R24 to R30) -/

/-- Letter j of a target, counted from 1. -/
def targetLetter (t : List Nat) (j : Nat) : Nat := t.getD (j - 1) 0

/-- Cell j of a row. -/
def Row.cell (r : Row) (j : Nat) : Nat := r.cells.getD j 0

/-- Row R0 for a target of m letters: cell j is 2j (R25). -/
def rowZero (m : Nat) : Row where
  letter := none
  cells := (List.range (m + 1)).map (2 * ·)

/-- The swap candidate for cell j: when i ≥ 2 and j ≥ 2, x is t(j−1), the letter below is tj and differs from x, it is
cell j−2 of R(i−2), plus 1 (R26). `below2` is R(i−2), which is there when i ≥ 2. -/
def swapCandidate (t : List Nat) (x : Nat) (below : Row) (below2 : Option Row) (j : Nat) : Option Nat :=
  match below2, below.letter with
  | some r, some y =>
    if 2 ≤ j ∧ x = targetLetter t (j - 1) ∧ y = targetLetter t j ∧ x ≠ y then some (r.cell (j - 2) + 1) else none
  | _, _ => none

/-- The least of a value and a candidate that may be absent. -/
def leastWith (a : Nat) : Option Nat → Nat
  | none => a
  | some b => min a b

/-- Cell j of the row pushed for x: the least of the candidates of R26; cell 0 is cell 0 below plus 2 (R25). -/
def rowCell (table : List (Nat × Nat)) (t : List Nat) (x : Nat) (below : Row) (below2 : Option Row) : Nat → Nat
  | 0 => below.cell 0 + 2
  | j + 1 =>
    leastWith
      (min (min (below.cell j + sub table x (targetLetter t (j + 1))) (below.cell (j + 1) + 2))
        (rowCell table t x below below2 j + 2))
      (swapCandidate t x below below2 (j + 1))

/-- The row pushed for letter x on a stack (top first) for target t (R26). -/
def pushedRow (table : List (Nat × Nat)) (t : List Nat) (rows : List Row) (x : Nat) : Row where
  letter := some x
  cells := (List.range (t.length + 1)).map
    (rowCell table t x (rows.headD (rowZero t.length)) (rows.tail.head?))

/-- The least of a list of cells (0 of none). -/
def least : List Nat → Nat
  | [] => 0
  | [a] => a
  | a :: b :: rest => min a (least (b :: rest))

/-- The frontier of a row: the least of its cells (R28). -/
def Row.frontier (r : Row) : Nat := least r.cells

/-- The lead column of a row: the smallest cell number at which its cell equals the frontier (R28). -/
def Row.lead (r : Row) : Nat := r.cells.idxOf r.frontier

/-- The verdict of a row under a close limit (R28). -/
def Row.verdict (limit : Nat) (r : Row) : Verdict :=
  if r.frontier = 0 then .on else if r.frontier ≤ limit then .near else .off

/-- Removes the top row, unless it is R0 (R30). -/
def popRow : List Row → List Row
  | _ :: r :: rest => r :: rest
  | rows => rows

/-- Removes the top row n times (R36, R37). -/
def popRows : Nat → List Row → List Row
  | 0, rows => rows
  | n + 1, rows => popRows n (popRow rows)

/-! ## The same on the state -/

/-- A word record by its number (R2). -/
def State.wordAt (s : State) (w : Nat) : Option WordRecord := s.words.records[w]?

/-- The target's letters, read through the Word Table (02 section 2.1). -/
def State.targetLetters (s : State) : List Nat :=
  match s.attempt.target with
  | none => []
  | some w => ((s.wordAt w).map (·.letters)).getD []

/-- The row a push of x would add now (R29). -/
def State.nextRow (s : State) (x : Nat) : Row := pushedRow s.judge.pairs s.targetLetters s.judge.rows x

/-- Pushes x (R29). -/
def State.pushLetter (s : State) (x : Nat) : State := s.setRows (s.nextRow x :: s.judge.rows)

/-- The verdict that a push of x gives: what a tentative push reads before it keeps or removes the row (R28, R31). -/
def State.verdictOf (s : State) (x : Nat) : Verdict := (s.nextRow x).verdict s.setup.closeLimit

/-- The landed letters and then the pending ones. -/
def Attempt.letters (a : Attempt) : List Nat := a.landed ++ a.pending

/-- Landed + pending (R20). -/
def Attempt.count (a : Attempt) : Nat := a.landed.length + a.pending.length

/-- The hint letter t(c+1) of the lead column c of the top row, or none when c is m (R48). -/
def State.hintLetter (s : State) : Option Nat :=
  let t := s.targetLetters
  let c := (s.judge.rows.headD (rowZero t.length)).lead
  if c < t.length then some (targetLetter t (c + 1)) else none

/-- Row Rn of the stack, counted from R0 at the bottom (R24). -/
def Judge.row (j : Judge) (n : Nat) : Option Row := j.rows.reverse[n]?

/-- The final score: cell m of row Rn, n the landed count (R46). -/
def State.score (s : State) : Nat :=
  match s.judge.row s.attempt.landed.length with
  | some r => r.cell s.targetLetters.length
  | none => 0

/-- The grade of a round from its landed count, score, assists and close limit (R47). -/
def gradeOf (landed score assists limit : Nat) : Grade :=
  if landed = 0 then .abandoned
  else if score = 0 then (if assists = 0 then .perfect else .close)
  else if score ≤ limit then .close
  else .wrong

/-- The grade the round would have now (R47). -/
def State.grade (s : State) : Grade :=
  gradeOf s.attempt.landed.length s.score s.round.assists s.setup.closeLimit

/-- Takes a word as target, with no letters, and places R0 (R21). -/
def State.takeTarget (s : State) (w : Nat) : State :=
  let s := s.setAttempt { target := some w, landed := [], pending := [] }
  s.setRows [rowZero s.targetLetters.length]

/-- Clears the Attempt Record and the row stack (R21). -/
def State.clearAttempt (s : State) : State :=
  (s.setAttempt { target := none, landed := [], pending := [] }).setRows []

/-- Removes the pending letters, their rows popped newest first; a removal sets the miss count to 0 (R37, R44). -/
def State.removePending (s : State) : State :=
  if s.attempt.pending = [] then s
  else
    ((s.setRows (popRows s.attempt.pending.length s.judge.rows)).setAttempt
      { s.attempt with pending := [] }).setMisses 0

/-- Releases the target in the middle of a round: pending letters removed, rows emptied, landed letters kept (R38). -/
def State.releaseTarget (s : State) : State :=
  let s := s.removePending
  (s.setAttempt { s.attempt with target := none }).setRows []

/-! ## The box of a solo grade (R11) -/

/-- A word's box after a solo grade. -/
def boxAfter (g : Grade) (box : Nat) : Nat :=
  match g with
  | .perfect => min 4 (box + 1)
  | .close => box
  | .wrong => 0
  | .abandoned => box

/-- Updates the box of a word (R11). -/
def State.updateBox (s : State) (w : Nat) (g : Grade) : State :=
  match s.progress[w]? with
  | some e => s.setProgress (s.progress.set w { e with box := boxAfter g e.box })
  | none => s

/-! ## Exclusion windows and word choice (R13 to R18) -/

/-- Whether a word number lies in a window. -/
def Window.holds (x : Window) (w : Nat) : Bool := decide (x.low ≤ w ∧ w < x.high)

/-- Whether a word number lies in any exclusion window (R14). -/
def State.excluded (s : State) (w : Nat) : Bool := s.windows.any (·.holds w)

/-- Whether a word record is there and usable (R9). -/
def State.usable (s : State) (w : Nat) : Bool :=
  match s.wordAt w with
  | some r => r.usable
  | none => false

/-- Whether a word is eligible for a choice (R15). -/
def State.eligible (s : State) (w : Nat) : Bool :=
  s.words.state == .ready && decide (w < s.words.records.length) && s.usable w && !s.excluded w

/-- The eligible words in increasing number. -/
def State.eligibleWords (s : State) : List Nat := (List.range s.words.records.length).filter s.eligible

/-- A word's progress entry. -/
def State.progressAt (s : State) (w : Nat) : ProgressEntry := s.progress.getD w { box := 0, rest := 0 }

/-- The words a choice picks among: the eligible ones, without the previous choice when another is eligible (R16.1). -/
def State.candidates (s : State) : List Nat :=
  match s.previous with
  | none => s.eligibleWords
  | some p =>
    let others := s.eligibleWords.filter (· != p)
    if others = [] then s.eligibleWords else others

/-- Whether word a comes before word b in a choice: lower box, or equal box and greater rest (R16.2, R16.3). -/
def State.better (s : State) (a b : Nat) : Bool :=
  decide ((s.progressAt a).box < (s.progressAt b).box) ||
    ((s.progressAt a).box == (s.progressAt b).box && decide ((s.progressAt b).rest < (s.progressAt a).rest))

/-- The first of the best words of a list; over increasing numbers it is the lowest number (R16.4). -/
def State.best (s : State) : List Nat → Option Nat
  | [] => none
  | w :: ws =>
    match s.best ws with
    | none => some w
    | some b => if s.better b w then some b else some w

/-- The word the choice rule picks, if any (R16, R18). -/
def State.choice (s : State) : Option Nat := s.best s.candidates

/-- A progress entry after a choice: the picked word's rest becomes 0, another eligible word's rises to at most 255,
the rest stay (R16). -/
def State.restedEntry (s : State) (picked : Nat) (w : Nat) (e : ProgressEntry) : ProgressEntry :=
  if w = picked then { e with rest := 0 }
  else if s.eligible w then { e with rest := raise 255 e.rest }
  else e

/-- The rest updates and the new previous choice of a choice that picks a word (R16, R17). -/
def State.chose (s : State) (picked : Nat) : State :=
  (s.setProgress (s.progress.mapIdx (s.restedEntry picked))).setPrevious (some picked)

/-! ## Prefix check (R160) -/

/-- The sum of letter code times position, positions counted from p. -/
def weightedSum : (p : Nat) → List Nat → Nat
  | _, [] => 0
  | p, x :: xs => x * p + weightedSum (p + 1) xs

/-- The prefix check of letters: the sum of letter × position, mod 256 (R160). -/
def prefixCheck (letters : List Nat) : Nat := weightedSum 1 letters % 256

end Sys2Proof.Machine
end

