-- ==== Sys2Proof/Machine/SpeechOps.lean ====
section
/-! DEFINITION. The return to IDLE and the end of a marked utterance (R68, R79, R159); the voices: offers, assignment,
starts, walks, ends, resume and STOP (chapter 6); composed spellings (R95, R96). -/

namespace Sys2Proof.Machine

open Sys2Proof

/-! ## Round Controller: return to IDLE, end of a marked utterance -/

/-- Every return to IDLE: the target is released, letters and rows cleared, both timers stopped, kind, word, tag, deal
facts and marked utterance none; counts and next repeat keep their values (R21, R64, R79, R153). -/
def State.toIdle (s : State) : State :=
  s.clearAttempt.setRound { s.round with
    state := .idle, kind := none, word := none, tag := none, soloTimer := .stopped, circleTimer := .stopped,
    marked := none, deal := none }

/-- The end of an utterance that carries prompt mark n, told to the Round Controller, which acts on its own state: the
prompt's end opens the round, the result speech's end ends the review, and any other state ignores it. The end of a mark
that is not this round's has no effect (R68, R84, R121, R159). -/
def State.markEnded (s : State) (n : Nat) : State :=
  if s.round.marked = some n then
    match s.round.state with
    | .soloOpening =>
      s.setRound { s.round with state := .soloOpen, marked := none, soloTimer := .running Config.roundSeconds }
    | .soloReview => s.toIdle
    | .circleOpening => s.setRound { s.round with state := .circlePlayer, marked := none }
    | .idle | .soloOpen | .circleDealing | .circlePlayer | .circleSpectator | .circleLost => s
  else s

/-! ## Entries and their ends -/

/-- The speech order of a queue held in join order: highest priority first, the oldest first among equals (R103). -/
def speechOrder (q : List Entry) : List Entry :=
  q.filter (fun e => decide (3 ≤ e.priority)) ++ q.filter (fun e => e.priority == 2) ++
    q.filter (fun e => e.priority == 1) ++ q.filter (fun e => e.priority == 0)

/-- The head of a speech queue (R103). -/
def queueHead (q : List Entry) : Option Entry := (speechOrder q).head?

/-- A queue without its head: the oldest entry of the head's priority class leaves it (R109). -/
def queueRest (q : List Entry) : List Entry :=
  match queueHead q with
  | none => q
  | some e => q.eraseP (fun f => min 3 f.priority == min 3 e.priority)

/-- An utterance ends: its slots are freed, a SPOKEN record is posted when it carries a tag, and a mark is told to the
Round Controller (R97, R120, R121). A `silent` end posts no record (R119). -/
def State.endEntry (s : State) (silent : Bool) (e : Entry) (outcome : SpokenOutcome) : State :=
  let s := s.freeUtterance e.start
  let s := if e.tag ≠ 0 ∧ silent = false then s.post (.spoken e.tag outcome) else s
  match e.markNo with
  | some n => s.markEnded n
  | none => s

/-! ## The walk (R88 to R91, R111) -/

/-- The place at which a walk begins from its start reference (R89). -/
def startPlace : StartRef → WalkPlace
  | .phrase p => .phraseEntry p
  | .slot n => .descriptor (.ram n) 1 false

/-- The place at which a resumed walk begins (R117). -/
def restartPlace (start : StartRef) : RestartPoint → WalkPlace
  | .start => startPlace start
  | .pair ref _ pair => .descriptor ref pair true

/-- The chain count a resumed walk has (R117). -/
def restartChain : RestartPoint → Nat
  | .start => 0
  | .pair _ chain _ => chain

/-- Where a walk stands after it leaves a descriptor by its next link: at the end for a link of 0, at the chain guard's
end after the 16th descriptor, at the linked phrase or slot otherwise (R89, R90). -/
def leaveDescriptor (chain : Nat) (ref : DescRef) (link : Nat) : WalkPlace :=
  if link = 0 then .finished .complete
  else if Config.chainLimit ≤ chain then .finished .cut
  else match ref with
    | .rom _ => .phraseEntry link
    | .ram _ => .descriptor (.ram link) 1 false

/-- One move of a walk: it needs a transfer, is finished, or goes on to another place, perhaps yielding a silence frame. -/
inductive WalkMove where
  | needs (kind : TransferKind)
  | done
  | goesOn (place : WalkPlace)
  | silence (place : WalkPlace)
deriving DecidableEq, Repr

/-- The next move of a walk from its place (R88, R89). -/
def walkMove (chain : Nat) : WalkPlace → WalkMove
  | .phraseEntry p => .needs (.phraseDirectory p)
  | .descriptor (.rom a) _ _ => .needs (.romDescriptor a)
  | .descriptor (.ram n) _ _ => .needs (.ramDescriptor n)
  | .finished _ => .done
  | .pairs ref d pair frame seg =>
    match d.pairs[pair - 1]? with
    | none => .goesOn (leaveDescriptor chain ref d.link)
    | some p =>
      if p.length = 0 then .goesOn (.pairs ref d (pair + 1) 0 none)
      else if p.segment = 0 ∨ seg = some .silent then
        if frame < p.length then .silence (.pairs ref d pair (frame + 1) seg)
        else .goesOn (.pairs ref d (pair + 1) 0 none)
      else match seg with
        | some (.run start count) =>
          if frame < min p.length count then .needs (.frame (frameAddress start frame))
          else .goesOn (.pairs ref d (pair + 1) 0 none)
        | _ => .needs (.segmentDirectory p.segment)

/-- The restart point of the pair a walk stands in (R117). -/
def placePoint (chain : Nat) : WalkPlace → RestartPoint
  | .pairs ref _ pair _ _ => .pair ref chain pair
  | _ => .start

/-- Lets a walk advance while the buffer holds fewer than 2 frames, until it needs a transfer or has ended; answers the
context, the buffer and the transfer it needs (R111). A walk makes at most ten moves here: six pairs, two silence frames,
a next link and a transfer. -/
def walkOn : (fuel : Nat) → Context → List Fetched → Context × List Fetched × Option TransferKind
  | 0, c, b => (c, b, none)
  | fuel + 1, c, b =>
    if Config.bufferLimit ≤ b.length then (c, b, none)
    else match walkMove c.chain c.place with
      | .done => (c, b, none)
      | .needs kind => (c, b, some kind)
      | .goesOn place => walkOn fuel { c with place := place } b
      | .silence place =>
        walkOn fuel { c with place := place, yielded := true }
          (b ++ [{ sound := .silence, point := placePoint c.chain c.place }])

/-- Moves a walk may make in one advance. -/
def walkFuel : Nat := 12

/-- A voice's walk advances, and makes its next transfer, when the voice has none waiting or in flight (R98, R111). -/
def State.advance (s : State) (v : VoiceId) : State :=
  match (s.voice v).current with
  | none => s
  | some c =>
    if s.hasTransfer (.voice v) then s
    else
      let r := walkOn walkFuel c (s.voice v).buffer
      let s := s.setVoice v { s.voice v with current := some r.1, buffer := r.2.1 }
      match r.2.2 with
      | some kind => s.ask (.voice v) kind
      | none => s

/-! ## Starting, resuming, ending -/

/-- The milliseconds of a frame time (R110). -/
def Rate.milliseconds : Rate → Nat
  | .quick => 8 | .normal => 10 | .slow => 13

/-- The samples a frame is rendered as (R110). -/
def Rate.samples : Rate → Nat
  | .quick => 64 | .normal => 80 | .slow => 104

/-- The pitch step loaded when an utterance starts: the own pitch on voice A in SPLIT mode, else the entry's (R108). The voice
mode is the one in force at the start, for an entry queued before a SETUP changed it too (DESIGN CHOICE, log 37). -/
def State.loadedPitch (s : State) (v : VoiceId) (e : Entry) : Nat :=
  match s.setup.voiceMode, v with
  | .split, .A => s.setup.ownPitch
  | _, _ => e.pitch

/-- The context an entry starts with (R109). -/
def State.startContext (s : State) (v : VoiceId) (e : Entry) : Context where
  entry := e
  pitch := s.loadedPitch v e
  rate := s.setup.rate
  chain := 0
  place := startPlace e.start
  restart := .start
  rendered := false
  yielded := false

/-- The context as it resumes (R117). -/
def Context.resumed (c : Context) : Context :=
  { c with chain := restartChain c.restart, place := restartPlace c.entry.start c.restart, rendered := false,
           yielded := c.restart != .start }

/-- A voice makes a context its current utterance and begins its walk; its first frame time is silence (R109, R117). -/
def State.begin (s : State) (v : VoiceId) (c : Context) : State :=
  (s.setVoice v { s.voice v with current := some c, buffer := [], rendering := .silence }).advance v

/-- A voice starts an entry (R109). -/
def State.startEntry (s : State) (v : VoiceId) (e : Entry) : State := s.begin v (s.startContext v e)

/-- The choice of R116, made when a voice's current utterance has ended: the resume stack's top when its priority is at
least the queue head's, else the queue head, else QUIET. -/
def State.chooseNext (s : State) (v : VoiceId) : State :=
  let x := s.voice v
  match queueHead x.queue, x.stack with
  | none, [] => s.setVoice v { x with current := none, buffer := [], rendering := .silence }
  | some e, [] => (s.setVoice v { x with queue := queueRest x.queue }).startEntry v e
  | none, c :: rest => (s.setVoice v { x with stack := rest }).begin v c.resumed
  | some e, c :: rest =>
    if e.priority ≤ c.entry.priority then (s.setVoice v { x with stack := rest }).begin v c.resumed
    else (s.setVoice v { x with queue := queueRest x.queue }).startEntry v e

/-- A voice's current utterance ends, and the voice chooses its next one in the same event (R113, R116). -/
def State.endCurrent (s : State) (v : VoiceId) (outcome : SpokenOutcome) : State :=
  match (s.voice v).current with
  | none => s
  | some c =>
    ((s.setVoice v { s.voice v with current := none, buffer := [], rendering := .silence }).endEntry false c.entry
      outcome).chooseNext v

/-- After a transfer of a voice: its walk advances, and an utterance whose sequence proves to hold no frame ends COMPLETE
at once (R91, R111, R113). -/
def State.goOn (s : State) (v : VoiceId) : State :=
  let s := s.advance v
  match (s.voice v).current with
  | some c =>
    match c.place, c.yielded with
    | .finished _, false => s.endCurrent v .complete
    | _, _ => s
  | none => s

/-! ## Offers and groups (R104 to R107) -/

/-- The youngest entry of a queue (held in join order) whose priority is below p (R104). -/
def youngestBelow (p : Nat) (q : List Entry) : Option Entry := q.reverse.find? (fun e => decide (e.priority < p))

/-- The queue without that entry. -/
def withoutYoungestBelow (p : Nat) (q : List Entry) : List Entry :=
  (q.reverse.eraseP (fun e => decide (e.priority < p))).reverse

/-- Offers an entry to a voice: it starts at once on a QUIET voice, joins the queue, displaces the youngest entry of lower
priority, or is dropped. The flag is false when the entry itself was dropped (R104, R109). -/
def State.offer (s : State) (v : VoiceId) (e : Entry) : State × Bool :=
  let x := s.voice v
  match x.current with
  | none => (s.startEntry v e, true)
  | some _ =>
    if x.queue.length < Config.speechQueueLimit then (s.setVoice v { x with queue := x.queue ++ [e] }, true)
    else
      match youngestBelow e.priority x.queue with
      | some d =>
        ((s.setVoice v { x with queue := withoutYoungestBelow e.priority x.queue ++ [e] }).endEntry false d .dropped, true)
      | none => (s.endEntry false e .dropped, false)

/-- The priority of a voice's current utterance (0 on a QUIET voice). -/
def Voice.currentPriority (x : Voice) : Nat :=
  match x.current with
  | some c => c.entry.priority
  | none => 0

/-- The voice a group is assigned to by its first entry's source: in SPLIT mode voice B for PEER and voice A for any other
(R106); in SHARED mode by the two voices' states (R107). -/
def State.assign (s : State) (source : Source) : VoiceId :=
  match s.setup.voiceMode with
  | .split => if source = .peer then .B else .A
  | .shared =>
    if s.voiceA.current.isNone then .A
    else if s.voiceB.current.isNone then .B
    else if s.voiceB.currentPriority < s.voiceA.currentPriority then .B
    else .A

/-- Offers entries to one voice, one after another (R105). -/
def State.offerAll (s : State) (v : VoiceId) (es : List Entry) : State :=
  es.foldl (fun s e => (s.offer v e).1) s

/-- Offers a group: it is assigned once, by its first entry (R105). -/
def State.offerGroup (s : State) (es : List Entry) : State :=
  match es with
  | [] => s
  | e :: _ => s.offerAll (s.assign e.source) es

/-- An entry of the part's own making, with the own pitch and no tag; a marked one bears the next mark's number (R102). -/
def State.entry (s : State) (source : Source) (priority : Nat) (start : StartRef) (mark : Bool) : Entry where
  source := source
  priority := priority
  start := start
  pitch := s.setup.ownPitch
  tag := 0
  markNo := if mark then some s.round.marks else none

/-- A group of phrases of one source and priority, unmarked. -/
def State.phrases (s : State) (source : Source) (priority : Nat) (ps : List Nat) : List Entry :=
  ps.map (fun p => s.entry source priority (.phrase p) false)

/-- Speech answering the station's own keys: source OWN, priority 1 (R102). -/
def State.speakOwn (s : State) (ps : List Nat) : State := s.offerGroup (s.phrases .own 1 ps)

/-- Speech of the round itself: source ROUND, priority 2 (R102). -/
def State.speakRound (s : State) (ps : List Nat) : State := s.offerGroup (s.phrases .round 2 ps)

/-- The echo of a peer's letter: source PEER, priority 1, at the sender's laptop number (R40, R102). -/
def State.speakPeer (s : State) (laptop phrase : Nat) : State :=
  s.offerGroup [{ s.entry .peer 1 (.phrase phrase) false with pitch := laptop }]

/-- Offers a group whose last entry is marked; the Round Controller records it as its marked utterance first, so that an
entry dropped at the offer ends with the record in place (R66, R67, R75, R76). -/
def State.offerMarked (s : State) (es : List Entry) : State :=
  let v := s.assign .round
  (s.setRound { s.round with marked := some s.round.marks, marks := s.round.marks + 1 }).offerAll v es

/-! ## STOP (R118, R119) -/

/-- Everything a voice holds, in the order its ends are posted: the current utterance, the resume stack from top to
bottom, the queue from head to tail (R120). -/
def Voice.entries (x : Voice) : List Entry :=
  (x.current.toList.map (·.entry)) ++ x.stack.map (·.entry) ++ speechOrder x.queue

/-- The voice that holds the utterance with mark n: sounding, on its resume stack or in its queue (R78). -/
def State.holder (s : State) (n : Nat) : Option VoiceId :=
  if s.voiceA.entries.any (fun e => e.markNo == some n) then some .A
  else if s.voiceB.entries.any (fun e => e.markNo == some n) then some .B
  else none

/-- Stops a voice: it becomes QUIET, its request is withdrawn or its transfer's bytes will be thrown away, and every
utterance it held ends CUT; `silent` for RESTART (R118, R119). -/
def State.stopVoice (s : State) (silent : Bool) (v : VoiceId) : State :=
  (s.voice v).entries.foldl (fun s e => s.endEntry silent e .cut) ((s.setVoice v Voice.quiet).withdraw (.voice v))

/-- Stops both voices, voice A first (R118). -/
def State.stopBoth (s : State) (silent : Bool) : State := (s.stopVoice silent .A).stopVoice silent .B

/-! ## Composed spellings (R95, R96) -/

/-- A letter's piece of a spelling: its letter sound table entry, or a pair of length 0 when unread or none (R95). The
segment of that pair of length 0 is 0 (DESIGN CHOICE, log 36). -/
def Store.letterPair (st : Store) (phrase : Nat) : Pair :=
  match st.letters[phrase - 1]? with
  | some (.sound p) => p
  | _ => { length := 0, segment := 0 }

/-- The six pairs of a slot that spells at most three letters: two for each, the rest empty (R95). -/
def spellingPairs (ps : List Pair) : List Pair :=
  (ps.flatMap (fun p => [p, Pair.mk 15 0]) ++ List.replicate 6 (Pair.mk 0 0)).take 6

/-- Writes a spelling's letter pairs three to a slot into the slots given, each linked to the next (R95). -/
def writeSpelling (st : Store) : List Nat → List Pair → Store
  | [], _ => st
  | n :: ns, ps =>
    writeSpelling (st.write n (some { pairs := spellingPairs (ps.take 3), link := ns.headD 0 })) ns (ps.drop 3)

/-- A composed spelling: its head slot and the number of letters composed. -/
structure Spelling where
  head : Nat
  letters : Nat
deriving DecidableEq, Repr

/-- Composes a spelling of letters in the lowest free slots, whole, shortened to what fits, or not at all (R95, R96). -/
def State.compose (s : State) (letters : List Nat) : State × Option Spelling :=
  let needed := (letters.length + 2) / 3
  match s.store.freeSlots.take needed with
  | [] => (s, none)
  | head :: more =>
    let taken := head :: more
    let spelled := letters.take (3 * taken.length)
    let pairs := spelled.map (fun x => s.store.letterPair (letterPhrase s.setup.letterVoice x))
    (s.setStore (writeSpelling s.store taken pairs), some { head := head, letters := spelled.length })

end Sys2Proof.Machine
end

