-- ==== Sys2Proof/Machine/RoundOps.lean ====
section
/-! DEFINITION. The Round Controller's shared operations: opening and closing rounds, grading speech, echoes and GUIDED
refusals, circle landings, loss of the word, link trouble in a round (chapters 2, 4 and 8). -/

namespace Sys2Proof.Machine

open Sys2Proof

/-! ## Round facts -/

/-- The say-phrase of the round word (R67, R71). -/
def State.sayPhrase (s : State) : Nat :=
  match s.round.word.bind s.wordAt with
  | some r => r.sayPhrase
  | none => 0

/-- The sentence-phrase of the round word, when it has one (R71). -/
def State.sentencePhrase (s : State) : Option Nat :=
  match s.round.word.bind s.wordAt with
  | some r => r.sentence
  | none => none

/-- Sets the round facts as a round opens (R64, R153). -/
def State.openFacts (s : State) (kind : RoundKind) (word : Nat) (tag : Option Nat) (circleTimer : Timer) : State :=
  s.setRound { s.round with
    kind := some kind, word := some word, tag := tag, soloTimer := .stopped, circleTimer := circleTimer,
    hints := 0, nextRepeat := .word, marked := none, assists := 0, misses := 0, deal := none }

/-- Queues the prompt, "spell" and the marked say-phrase, as one group (R67). -/
def State.queuePrompt (s : State) : State :=
  s.offerMarked [s.entry .round 2 (.phrase Config.phraseSpell) false, s.entry .round 2 (.phrase s.sayPhrase) true]

/-- Opens a solo round on a word (R66, steps 1 to 5). -/
def State.openSolo (s : State) (w : Nat) : State :=
  (((s.openFacts .solo w none .stopped).takeTarget w).setRoundState .soloOpening).queuePrompt

/-! ## Echoes and feedback (R40, R42) -/

/-- Echoes an own letter with the verdict of its row; in COACHED style an OFF verdict adds "check that letter" in the same
group (R40, R42, R105). -/
def State.echoOwn (s : State) (letter : Nat) (v : Verdict) : State :=
  let p := letterPhrase s.setup.letterVoice letter
  if s.setup.style = .coached ∧ v = .off then s.speakOwn [p, Config.phraseCheckThatLetter] else s.speakOwn [p]

/-- A GUIDED refusal: the buzz, with "try another" on the first and second miss; on the third the reveal of the hint
letter, which counts an assist, or "that's all the letters" (R43, R44). -/
def State.guidedRefusal (s : State) : State :=
  if s.round.misses < 2 then
    (s.setMisses (s.round.misses + 1)).speakOwn [Config.phraseBuzz, Config.phraseTryAnother]
  else
    match s.hintLetter with
    | some x =>
      (s.setRound { s.round with misses := 0, assists := raise 255 s.round.assists }).speakOwn
        [Config.phraseBuzz, letterPhrase s.setup.letterVoice x]
    | none => (s.setMisses 0).speakOwn [Config.phraseBuzz, Config.phraseAllTheLetters]

/-- Whether a letter key is refused by GUIDED style (R43). -/
def State.guidedRefuses (s : State) (x : Nat) : Bool := s.setup.style == .guided && s.verdictOf x != .on

/-! ## Keys of an open solo round (R70 to R73) -/

/-- Keeps a letter key of a solo round: pushed and landed in the same event, echoed (R32). -/
def State.landSolo (s : State) (x : Nat) : State :=
  let v := s.verdictOf x
  let s := s.pushLetter x
  ((s.setAttempt { s.attempt with landed := s.attempt.landed ++ [x] }).setMisses 0).echoOwn x v

/-- A letter key in SOLO_OPEN (R70). -/
def State.soloLetter (s : State) (x : Nat) : State :=
  if Config.attemptLimit ≤ s.attempt.landed.length then s.speakOwn [Config.phraseEnoughLetters]
  else if s.guidedRefuses x then s.guidedRefusal
  else s.landSolo x

/-- Erase in SOLO_OPEN (R33). With no landed letters its buzz has priority 1 (DESIGN CHOICE, log 39). -/
def State.soloErase (s : State) : State :=
  if s.attempt.landed = [] then s.speakOwn [Config.phraseBuzz]
  else
    (((s.setRows (popRow s.judge.rows)).setAttempt
      { s.attempt with landed := s.attempt.landed.dropLast }).setMisses 0).speakOwn [Config.phraseClick]

/-- Repeat in an open round (R71). -/
def State.sayAgain (s : State) : State :=
  match s.round.nextRepeat, s.sentencePhrase with
  | .sentence, some p => (s.setRound { s.round with nextRepeat := .word }).speakRound [p]
  | .sentence, none => (s.setRound { s.round with nextRepeat := .word }).speakRound [s.sayPhrase]
  | .word, some _ => (s.setRound { s.round with nextRepeat := .sentence }).speakRound [s.sayPhrase]
  | .word, none => s.speakRound [s.sayPhrase]

/-- Hint in an open round (R72). -/
def State.giveHint (s : State) : State :=
  if Config.hintLimit ≤ s.round.hints then s.speakRound [Config.phraseNoMoreHints]
  else
    match s.hintLetter with
    | none => s.speakRound [Config.phraseAllTheLetters]
    | some x =>
      (s.setRound { s.round with hints := s.round.hints + 1, assists := raise 255 s.round.assists }).speakRound
        [letterPhrase s.setup.letterVoice x]

/-! ## Grading (R75, R76, R168) -/

/-- The first phrases of the result speech (R76). -/
def verdictPhrase : Grade → Nat
  | .perfect => Config.phrasePerfect
  | .close => Config.phraseClose
  | .wrong | .abandoned => Config.phraseNotQuite

/-- The result speech of a grade, composed now: the entries and the state with the spelling's slots taken; `mark` marks the
last entry (R76, R95). The spelling is composed before any entry of the group is offered (DESIGN CHOICE, log 35). -/
def State.resultSpeech (s : State) (g : Grade) (mark : Bool) : State × List Entry :=
  match g with
  | .perfect => (s, [s.entry .round 2 (.phrase Config.phrasePerfect) mark])
  | _ =>
    let r := s.compose s.targetLetters
    let spelling := (r.2.map (fun x => s.entry .round 2 (.slot x.head) false)).toList
    (r.1, [s.entry .round 2 (.phrase (verdictPhrase g)) false,
           s.entry .round 2 (.phrase Config.phraseThatSpells) false] ++ spelling ++
          [s.entry .round 2 (.phrase s.sayPhrase) mark])

/-- The RESULT record of the round as it stands (R77, R168). -/
def State.resultRecord (s : State) (kind : RoundKind) (g : Grade) (score : Nat) : Record :=
  .result kind (s.round.word.getD 0) g score s.attempt.landed.length s.round.assists

/-- Grades a solo round: box, RESULT record, SOLO_REVIEW, marked result speech (R75). -/
def State.gradeSolo (s : State) : State :=
  let g := s.grade
  let score := s.score
  let s := s.updateBox (s.round.word.getD 0) g
  let s := s.post (s.resultRecord .solo g score)
  let s := s.setRound { s.round with soloTimer := .stopped, state := .soloReview }
  let r := s.resultSpeech g true
  r.1.offerMarked r.2

/-- Done in SOLO_OPEN (R73). -/
def State.soloDone (s : State) : State :=
  if s.attempt.landed = [] then s.speakOwn [Config.phraseSpellItFirst] else s.gradeSolo

/-- Done in SOLO_REVIEW: stops the voice that holds the marked utterance, whose end moves the round to IDLE (R78). -/
def State.reviewDone (s : State) : State :=
  match s.round.marked.bind s.holder with
  | some v => s.stopVoice false v
  | none => s

/-- The solo round timer expires in SOLO_OPEN (R74). -/
def State.soloExpires (s : State) : State :=
  if s.attempt.landed = [] then (s.post (s.resultRecord .solo .abandoned 0)).toIdle else s.gradeSolo

/-- Grades a player's circle round and returns to IDLE (R168). -/
def State.gradeCircle (s : State) : State :=
  let s := s.removePending
  let g := s.grade
  let score := s.score
  let r := s.resultSpeech g false
  let s := r.1.offerGroup r.2
  (s.post (s.resultRecord .circle g score)).toIdle

/-! ## Keys of a circle player (R160, R161) -/

/-- Whether an entry of a kind is in the transmit queue. -/
def State.hasEntry (s : State) (k : TxKind) : Bool := s.link.queue.any (fun e => e.kind == k)

/-- Keeps a letter key of a player: pushed, pending, its LETTER entry queued, a click (R160). -/
def State.keepPending (s : State) (x : Nat) : State :=
  let s := s.pushLetter x
  let s := (s.setAttempt { s.attempt with pending := s.attempt.pending ++ [x] }).setMisses 0
  let s := s.queueFrame .letter
    [Byte.of (s.round.tag.getD 0), Byte.of s.attempt.count, Byte.of x, Byte.of (prefixCheck s.attempt.letters)]
  s.speakOwn [Config.phraseClick]

/-- A letter key in CIRCLE_PLAYER (R160). -/
def State.circleLetter (s : State) (x : Nat) : State :=
  if s.hasEntry .close then s.speakOwn [Config.phraseBuzz]
  else if Config.attemptLimit ≤ s.attempt.count then s.speakOwn [Config.phraseEnoughLetters]
  else if Config.pendingLimit ≤ s.attempt.pending.length then s.speakOwn [Config.phraseBuzz]
  else if s.guidedRefuses x then s.guidedRefusal
  else s.keepPending x

/-- Done in CIRCLE_PLAYER (R161). -/
def State.circleDone (s : State) : State :=
  if s.hasEntry .close then s.speakOwn [Config.phraseBuzz]
  else if s.attempt.count = 0 then s.speakOwn [Config.phraseSpellItFirst]
  else
    (s.queueFrame .close
      [Byte.of (s.round.tag.getD 0), Byte.of s.attempt.count, Byte.of (prefixCheck s.attempt.letters)]).speakOwn
      [Config.phraseClick]

/-! ## Circle rounds: opening, landing, loss, closing -/

/-- Whether a circle round is open (R162). -/
def RoundState.circleOpen : RoundState → Bool
  | .circleOpening | .circlePlayer | .circleSpectator | .circleLost => true
  | _ => false

/-- Whether the station is a player (R158, R159). -/
def RoundState.player : RoundState → Bool
  | .circleOpening | .circlePlayer => true
  | _ => false

/-- The join test of R158, made once, at the DEAL. -/
def State.joins (s : State) (identity : BitVec 16) (word count : Nat) : Bool :=
  s.setup.circle && s.link.state == .clear && s.words.state == .ready && identity == s.words.identity &&
    (match s.wordAt word with
     | some r => r.usable && r.letters.length == count
     | none => false) && !s.excluded word

/-- A DEAL opens a circle round, as player or as spectator (R158). -/
def State.openCircle (s : State) (identity : BitVec 16) (word tag count : Nat) : State :=
  let joins := s.joins identity word count
  let s := s.openFacts .circle word (some tag) (.running Config.circleSeconds)
  if joins then ((s.takeTarget word).setRoundState .circleOpening).queuePrompt
  else (s.clearAttempt.setRoundState .circleSpectator).speakRound [Config.phraseListenThisTime]

/-- Whether the station is going to doze: its answer slot holds the DONE reply of DOZE (R145, R182). -/
def State.goingToDoze (s : State) : Bool :=
  match s.answer with
  | some r => r.code == Config.codeDoze && r.outcome == .done
  | none => false

/-- A DEAL handed to the Round Controller; the station's own is ignored in any state but CIRCLE_DEALING, but for the last
tag (R152, R156, R157). -/
def State.takeDeal (s : State) (own : Bool) (identity : BitVec 16) (word tag count : Nat) : State :=
  let s := s.setRound { s.round with lastTag := tag % 16 }
  match s.round.state with
  | .idle =>
    if own = false ∧ s.setup.circle = true ∧ s.goingToDoze = false then s.openCircle identity word (tag % 16) count else s
  | .circleDealing =>
    let s :=
      if own then
        match s.round.deal with
        | some d => s.post (.deal .dealt d.tag d.word)
        | none => s
      else (s.removeKind .deal).post (.deal .outdealt (tag % 16) word)
    s.openCircle identity word (tag % 16) count
  | .soloOpening | .soloOpen | .soloReview | .circleOpening | .circlePlayer | .circleSpectator | .circleLost => s

/-- Restarts the circle timer at a landing (R162). -/
def State.restartCircle (s : State) : State :=
  s.setRound { s.round with circleTimer := .running Config.circleSeconds }

/-- The station's own LETTER lands its first pending letter (R35, R163). Its row is the one pushed for it: R(n+1). -/
def State.landOwn (s : State) : State :=
  match s.attempt.pending with
  | [] => s
  | x :: rest =>
    let v := (s.judge.row (s.attempt.landed.length + 1)).elim Verdict.off (·.verdict s.setup.closeLimit)
    let s := (s.setAttempt { s.attempt with landed := s.attempt.landed ++ [x], pending := rest }).setMisses 0
    s.restartCircle.echoOwn x v

/-- Another station's letter lands at a player (R36, R164). -/
def State.landPeer (s : State) (laptop x : Nat) : State :=
  let late := s.hasEntry .letter
  let more := s.hasEntry .close
  let s := s.removeRoundFrames.removePending
  let v := s.verdictOf x
  let s := s.pushLetter x
  let s := (s.setAttempt { s.attempt with landed := s.attempt.landed ++ [x] }).setMisses 0
  let s := s.restartCircle
  let s := if late then s.speakRound [Config.phraseTooLate] else s
  let s := if more then s.speakRound [Config.phraseOneMoreLetter] else s
  let s := s.speakPeer laptop (letterPhrase s.setup.letterVoice x)
  if laptop = s.laptop.toNat then s else s.tallyLetter laptop (v == .on)

/-- Another station's letter lands at a spectator (R39, R44, R165). -/
def State.landSpectator (s : State) (laptop x : Nat) : State :=
  let s := ((s.setAttempt { s.attempt with landed := s.attempt.landed ++ [x] }).setMisses 0).restartCircle
  let s := s.speakPeer laptop (letterPhrase s.setup.letterVoice x)
  if laptop = s.laptop.toNat then s else s.tallyLetter laptop false

/-- The station becomes lost (R166). -/
def State.loseWord (s : State) : State :=
  let s := if s.round.state.player then s.removeRoundFrames.releaseTarget else s
  (s.speakRound [Config.phraseLostTheWord]).setRoundState .circleLost

/-- The expected check of a frame's letter: the prefix check of the landed letters followed by it (R162). -/
def State.expectedCheck (s : State) (x : Nat) : Nat := prefixCheck (s.attempt.landed ++ [x])

/-- A LETTER handed to the Round Controller (R162). -/
def State.takeLetter (s : State) (own : Bool) (laptop tag position letter check : Nat) : State :=
  if s.round.state.circleOpen = false ∨ s.round.state = .circleLost ∨ s.round.tag ≠ some tag ∨
      ¬ (1 ≤ position ∧ position ≤ 20) ∨ letterCode letter = false then s
  else if position ≤ s.attempt.landed.length then s
  else if position = s.attempt.landed.length + 1 then
    if own = true ∧ s.attempt.pending ≠ [] then s.landOwn
    else if check = s.expectedCheck letter then
      if s.round.state.player then s.landPeer laptop letter else s.landSpectator laptop letter
    else s.loseWord
  else s.loseWord

/-- Closes the round here without a grade: own frames removed, "round over", IDLE (R167, R169). -/
def State.roundOver (s : State) : State :=
  (s.removeRoundFrames.removePending.speakRound [Config.phraseRoundOver]).toIdle

/-- A CLOSE handed to the Round Controller (R167). -/
def State.takeClose (s : State) (tag count check : Nat) : State :=
  if s.round.state.circleOpen = false ∨ s.round.tag ≠ some tag ∨ ¬ (1 ≤ count ∧ count ≤ 20) then s
  else if s.round.state = .circleLost then s.roundOver
  else if count ≠ s.attempt.landed.length then s
  else if s.round.state.player = true ∧ check = prefixCheck s.attempt.landed then s.removeRoundFrames.gradeCircle
  else s.roundOver

/-- The circle timer expires (R169). -/
def State.circleExpires (s : State) : State :=
  if s.round.state.player then
    if s.attempt.landed = [] then
      let s := s.removeRoundFrames.removePending.speakRound [Config.phraseRoundOver]
      (s.post (s.resultRecord .circle .abandoned 0)).toIdle
    else s.removeRoundFrames.gradeCircle
  else s.roundOver

/-- What the Round Controller does when the link becomes TROUBLED (R171). -/
def State.roundTroubled (s : State) : State :=
  match s.round.state with
  | .circleDealing =>
    let s' := s.removeKind .deal
    (match s.round.deal with
     | some d => s'.post (.deal .failed d.tag d.word)
     | none => s').toIdle
  | .circleOpening | .circlePlayer => (s.removeRoundFrames.releaseTarget).setRoundState .circleSpectator
  | .idle | .soloOpening | .soloOpen | .soloReview | .circleSpectator | .circleLost => s

end Sys2Proof.Machine
end

