-- ==== Sys2Proof/Machine/LinkOps.lean ====
section
/-! DEFINITION. The Link Interface's shared operations: forming frames (R131, R132, R142), the data cells a sender drives
(R126, R128), good frames and discards (R133 to R139), doze entry (R145). -/

namespace Sys2Proof.Machine

open Sys2Proof

/-! ## Frames (Tables 7-1 and 7-2) -/

/-- The precedence byte: class × 64 + rank × 8 + laptop number. -/
def precedenceByte (cls rank laptop : Nat) : Byte := Byte.of (cls * 64 + rank * 8 + laptop)

/-- The kind byte: kind code × 16 + laptop number × 2 + role. -/
def kindByte (code laptop role : Nat) : Byte := Byte.of (code * 16 + laptop * 2 + role)

/-- The sender's laptop number in a kind byte. -/
def kindLaptop (kind : Byte) : Nat := kind.toNat / 2 % 8

/-- The sender's role in a kind byte: 0 a lesson controller, 1 a part. -/
def kindRole (kind : Byte) : Nat := kind.toNat % 2

/-- The sum of bytes as a number. -/
def byteSum (bytes : List Byte) : Nat := (bytes.map (·.toNat)).sum

/-- The check byte after the bytes given (R132). -/
def checkByte (before : List Byte) : Byte := Byte.of ((256 - byteSum before % 256) % 256)

/-- The bytes before the check byte: precedence, kind, body length, body (Table 7-1). -/
def Frame.beforeCheck (f : Frame) : List Byte := [f.precedence, f.kind, Byte.of f.body.length] ++ f.body

/-- All the bytes of a frame (Table 7-1). -/
def Frame.bytes (f : Frame) : List Byte := f.beforeCheck ++ [checkByte f.beforeCheck]

/-- The cells a frame lasts: the opening low and ten for each byte (R126). -/
def Frame.cells (f : Frame) : Nat := 12 + 10 * f.bytes.length

/-- The class-0 rank of a laptop number under a round tag: (laptop − tag) mod 8 (R131). -/
def rotatedRank (laptop : BitVec 3) (tag : Nat) : Nat := (laptop - BitVec.ofNat 3 tag).toNat

/-- The kind code of a transmit queue entry (Table 7-2). -/
def TxKind.code : TxKind → Nat
  | .beat => Config.kindBeat | .deal => Config.kindDeal | .letter => Config.kindLetter | .close => Config.kindClose

/-- The class of a transmit queue entry's frame (Table 7-2). -/
def TxKind.cls : TxKind → Nat
  | .beat => 3 | .deal => 1 | .letter => 0 | .close => 0

/-- The precedence byte of an entry's frame: a LETTER's or CLOSE's rank is rotated by the tag its body begins with; any
other rank is the laptop number (R131). -/
def TxEntry.precedence (e : TxEntry) (laptop : BitVec 3) : Byte :=
  match e.kind with
  | .letter | .close => precedenceByte 0 (rotatedRank laptop (byteAt e.body 0)) laptop.toNat
  | .beat | .deal => precedenceByte e.kind.cls laptop.toNat laptop.toNat

/-- The frame of an entry (R131). -/
def TxEntry.frame (e : TxEntry) (laptop : BitVec 3) : Frame where
  precedence := e.precedence laptop
  kind := kindByte e.kind.code laptop.toNat 1
  body := e.body

/-- The frame of a REPLY or REPORT: class 2, rank the laptop number (R131). -/
def answerFrame (code : Nat) (laptop : BitVec 3) (body : List Byte) : Frame where
  precedence := precedenceByte 2 laptop.toNat laptop.toNat
  kind := kindByte code laptop.toNat 1
  body := body

/-! ## The transmitter (R128, R142) -/

/-- The kinds of class 0 (Table 7-2). -/
def TxKind.classZero (k : TxKind) : Bool := k == .letter || k == .close

/-- The oldest entry that satisfies p. -/
def oldest (p : TxKind → Bool) (q : List TxEntry) : Option TxEntry := q.find? (fun e => p e.kind)

/-- Marks the oldest entry that satisfies p as the one being sent. -/
def markSending (p : TxKind → Bool) : List TxEntry → List TxEntry
  | [] => []
  | e :: es => if p e.kind then { e with sending := true } :: es else e :: markSending p es

/-- The frame in flight when it was taken from the transmit queue, and that queue with its entry marked. -/
def State.offerEntry (s : State) (p : TxKind → Bool) (e : TxEntry) : Link :=
  { s.link with
    queue := markSending p s.link.queue, inFlight := some { frame := e.frame s.laptop, place := .queue } }

/-- What the transmitter holds once it has chosen a frame to offer: the oldest LETTER or CLOSE, else the DEAL, else the
REPLY, else the head record, else the BEAT; none when it has no frame ready (R142, R143). -/
def State.chosen (s : State) : Option Link :=
  match oldest TxKind.classZero s.link.queue with
  | some e => some (s.offerEntry TxKind.classZero e)
  | none =>
    match oldest (· == .deal) s.link.queue with
    | some e => some (s.offerEntry (· == .deal) e)
    | none =>
      match s.answer with
      | some r => some { s.link with
          inFlight := some { frame := answerFrame Config.kindReply s.laptop (replyBody r s), place := .answer } }
      | none =>
        match s.reports with
        | r :: _ => some { s.link with
            inFlight := some { frame := answerFrame Config.kindReport s.laptop r.body, place := .report } }
        | [] => (oldest (· == .beat) s.link.queue).map (s.offerEntry (· == .beat))

/-- The station begins or joins a frame when it has one ready (R128). -/
def State.offerFrame (s : State) (cell : Nat) : State :=
  match s.chosen with
  | some l => (s.setLink l).setReceiver (.inFrame cell)
  | none => s

/-- Whether a frame sends a 1, and so releases the line, in a data cell: byte b occupies cells 12 + 10b to 21 + 10b, a start
cell, eight data cells most significant bit first, and a stop cell (R126, R128). Answers false for any other cell. -/
def Frame.sendsOne (f : Frame) (cell : Nat) : Bool :=
  if cell < 12 then false
  else
    match f.bytes[(cell - 12) / 10]? with
    | none => false
    | some b =>
      let k := (cell - 12) % 10
      decide (1 ≤ k ∧ k ≤ 8) && b.getLsbD (8 - k)

/-- Whether a frame drives the line low in a cell: in the opening low, and in each cell of a byte in which it sends a 0; a
start cell is a 0, a stop cell is released (R126, R128). -/
def Frame.drivesLow (f : Frame) (cell : Nat) : Bool :=
  decide (cell < 12) ||
    (decide (cell < f.cells) && decide ((cell - 12) % 10 ≠ 9) && !f.sendsOne cell)

/-- The frame in flight is no more: lost or abandoned. Its entry stays where it is (R129, R130). -/
def State.dropFrame (s : State) : State :=
  s.setLink { s.link with inFlight := none, queue := s.link.queue.map (fun e => { e with sending := false }) }

/-! ## Good frames (R134 to R137) -/

/-- Whether a frame that ends good is the station's own: the one it still has in flight (R135). -/
def State.isOwn (s : State) (f : Frame) : Bool :=
  match s.link.inFlight with
  | some x => decide (x.frame = f)
  | none => false

/-- Where the receiver stands after a good frame: in GAP WAIT with count 0 (R127); but a frame of the station's own that is
still in flight goes on to its end, and the receiver with it (R141, R147, R170, log 6). -/
def Link.receiverAfterGood (l : Link) (own : Bool) : Receiver :=
  if own = false ∧ l.inFlight.isSome = true then l.receiver else .gapWait 0

/-- The counts of a good frame, and the link's return to CLEAR at the fourth on a TROUBLED link (R134, R139). -/
def State.countGood (s : State) : State :=
  match s.link.state with
  | .clear => s.setLink { s.link with badRun := 0 }
  | .troubled =>
    if s.link.goodCount + 1 < Config.goodToClear then
      s.setLink { s.link with badRun := 0, goodCount := s.link.goodCount + 1 }
    else
      (s.setLink { s.link with badRun := 0, goodCount := 0, state := .clear }).post (.link .clear)

/-- A clash of laptop numbers is seen (R137). -/
def State.seeClash (s : State) : State :=
  let s := s.setFlags { s.flags with numberClash := true }
  let s := s.post (.link .clash)
  s.setLink { s.link with clashHold := Config.clashPeriods }

/-- An own frame has ended good: its entry leaves its collection, if it is still there (R135). -/
def State.entryLeaves (s : State) : State :=
  match s.link.inFlight with
  | none => s
  | some x =>
    let s := s.setLink { s.link with inFlight := none, queue := s.link.queue.filter (fun e => !e.sending) }
    match x.place with
    | .queue => s
    | .answer => s.setAnswer none
    | .report => s.setReports s.reports.tail

/-- What every good frame does before it is handed on: counts, link state, clash, and the entry of an own frame, in that
order (R134). A frame in flight that is not the one that ended goes on to its end (R141). -/
def State.frameEnds (s : State) (own : Bool) (role laptop : Nat) : State :=
  let s := (s.setReceiver (s.link.receiverAfterGood own)).countGood
  let s := if own = false ∧ role = 1 ∧ laptop = s.laptop.toNat then s.seeClash else s
  if own then s.entryLeaves else s

/-- Hands a good frame of a part to the Roster: any good frame from a peer part (R136, R149). -/
def State.rosterHears (s : State) (laptop : Nat) : State :=
  if laptop = s.laptop.toNat then s else s.heardPeer laptop

/-- A frame event: it reaches the part in IN FRAME; in GAP WAIT its cells are read as lows; OFF reads nothing (R127, R133). -/
def frameEvent (s : State) (act : State → State) : Host.Outcome State Fault Refusal :=
  match s.link.receiver with
  | .inFrame _ => .next (act s).grant
  | .gapWait _ => .next (s.setReceiver (.gapWait 0))
  | .off | .ready => .next s

/-! ## Discards and link trouble (R133, R138) -/

/-- The link becomes TROUBLED (R138). -/
def State.becomeTroubled (s : State) : State :=
  let s := s.setLink { s.link with state := .troubled, goodCount := 0 }
  let s := s.post (.link .troubled)
  let s := s.setFlags { s.flags with linkTrouble := true }
  (s.speakRound [Config.phraseLinkTrouble]).roundTroubled

/-- Where the receiver stands after a discard: READY after 16 high cells of silence, else GAP WAIT with count 0 (R133). -/
def receiverAfter : DiscardCause → Receiver
  | .silence => .ready
  | .lowStopCell | .overlongBody | .brokenSilence | .badSum => .gapWait 0

/-- A discard: a frame in flight is abandoned, the run rises, and a CLEAR link whose run reaches the threshold becomes
TROUBLED (R130, R133, R134, R138). -/
def State.discard (s : State) (cause : DiscardCause) : State :=
  let s := s.dropFrame
  let s := s.setLink { s.link with
    receiver := receiverAfter cause, badRun := raise 15 s.link.badRun, goodCount := 0 }
  if s.link.state = .clear ∧ s.setup.threshold ≤ s.link.badRun then s.becomeTroubled else s

/-! ## STATUS REPLY and doze entry (R145, R178) -/

/-- What a STATUS REPLY clears as its frame ends good (R178). -/
def State.statusSent (s : State) : State :=
  let s := s.setFlags { Flags.clear with
    linkTrouble := s.link.state == .troubled, numberClash := decide (0 < s.link.clashHold) }
  (s.setMixer { s.mixer with clips := 0 }).setUnderruns 0

/-- The part wakes: the settle begins, the scan passes restart with every key UP (R62, R146). -/
def State.wake (s : State) (cause : WakeCause) : State :=
  (s.setPower (.settling cause)).setScanner { s.scanner with keys := List.replicate 64 KeyCell.up }

/-- Doze entry: receiver OFF, transmit queue emptied, voices stopped, every key UP; with the any-key line closed the part
wakes at once (R61, R119, R145). -/
def State.enterDoze (s : State) (anyKeyClosed : Bool) : State :=
  let s := (s.emptyQueue.setReceiver .off).stopBoth false
  let s := (s.setPower .dozing).setScanner { s.scanner with keys := List.replicate 64 KeyCell.up }
  if anyKeyClosed then s.wake .key else s

/-- The station's own REPLY ends good: the slot is emptied, a STATUS REPLY clears the flags and counts, the DONE reply of
DOZE enters doze (R143, R145, R178). -/
def State.replyEnds (s : State) (anyKeyClosed : Bool) : State :=
  match s.answer with
  | none => s.frameEnds true 1 s.laptop.toNat
  | some r =>
    let doze := s.goingToDoze
    let s := s.frameEnds true 1 s.laptop.toNat
    let s := if r.code = Config.codeStatus then s.statusSent else s
    if doze then s.enterDoze anyKeyClosed else s

end Sys2Proof.Machine
end

