-- ==== Sys2Proof/Machine/Frames.lean ====
section
/-! DEFINITION. Good frames (R135, R136) and what the Roster and the Round Controller do with them. -/

namespace Sys2Proof.Machine

open Sys2Proof

/-- A part's frame from its fields: kind code, precedence byte, laptop number, body (Table 7-1). -/
def partFrame (code : Nat) (precedence : Byte) (laptop : BitVec 3) (body : List Byte) : Frame where
  precedence := precedence
  kind := kindByte code laptop.toNat 1
  body := body

/-- A good frame of a part is taken by the receiver and the Roster, and then handed on with whether it is the station's own
(R134 to R137, R149). -/
def State.takePartFrame (s : State) (f : Frame) (laptop : Nat) (handOn : Bool → State → State) : State :=
  let own := s.isOwn f
  handOn own ((s.frameEnds own 1 laptop).rosterHears laptop)

/-- A peer's entry takes the list identity of its BEAT (R149). -/
def State.noteIdentity (s : State) (laptop : Nat) (identity : BitVec 16) : State :=
  if laptop = s.laptop.toNat then s else s.updatePeer laptop (fun e => { e with identity := some identity })

/-- BEAT_FRAME (R149). -/
def execBeatFrame (precedence : Byte) (laptop : BitVec 3) (identity : BitVec 16) (summary lastTag : Byte) (s : State) :
    Host.Outcome State Fault Refusal :=
  frameEvent s (fun s =>
    s.takePartFrame (partFrame Config.kindBeat precedence laptop (bytes16 identity ++ [summary, lastTag])) laptop.toNat
      (fun _ s => s.noteIdentity laptop.toNat identity))

/-- A peer's DEAL is counted in its entry, whatever the Round Controller does with it (R149). -/
def State.countDeal (s : State) (laptop : Nat) : State :=
  if laptop = s.laptop.toNat then s else s.updatePeer laptop (fun e => { e with dealt := raise 255 e.dealt })

/-- DEAL_FRAME (R156). -/
def execDealFrame (precedence : Byte) (laptop : BitVec 3) (identity : BitVec 16) (word tag count : Byte) (s : State) :
    Host.Outcome State Fault Refusal :=
  frameEvent s (fun s =>
    s.takePartFrame (partFrame Config.kindDeal precedence laptop (bytes16 identity ++ [word, tag, count])) laptop.toNat
      (fun own s => (s.countDeal laptop.toNat).takeDeal own identity word.toNat tag.toNat count.toNat))

/-- LETTER_FRAME (R162). -/
def execLetterFrame (precedence : Byte) (laptop : BitVec 3) (tag position letter check : Byte) (s : State) :
    Host.Outcome State Fault Refusal :=
  frameEvent s (fun s =>
    s.takePartFrame (partFrame Config.kindLetter precedence laptop [tag, position, letter, check]) laptop.toNat
      (fun own s => s.takeLetter own laptop.toNat tag.toNat position.toNat letter.toNat check.toNat))

/-- CLOSE_FRAME (R167). -/
def execCloseFrame (precedence : Byte) (laptop : BitVec 3) (tag count check : Byte) (s : State) :
    Host.Outcome State Fault Refusal :=
  frameEvent s (fun s =>
    s.takePartFrame (partFrame Config.kindClose precedence laptop [tag, count, check]) laptop.toNat
      (fun _ s => s.takeClose tag.toNat count.toNat check.toNat))

/-- Whether the frame in flight was taken from a place. -/
def State.sendingFrom (s : State) (place : TxPlace) : Bool :=
  match s.link.inFlight with
  | some x => x.place == place
  | none => false

/-- REPLY_FRAME: the station's own REPLY ends good (R143, R145, R178). Without a REPLY in flight it cannot (log 3). -/
def execReplyFrame (anyKeyClosed : Bool) (s : State) : Host.Outcome State Fault Refusal :=
  if s.sendingFrom .answer then frameEvent s (fun s => s.replyEnds anyKeyClosed) else .next s

/-- REPORT_FRAME: the station's own REPORT ends good and the head record leaves (R143). -/
def execReportFrame (s : State) : Host.Outcome State Fault Refusal :=
  if s.sendingFrom .report then frameEvent s (fun s => s.frameEnds true 1 s.laptop.toNat) else .next s

/-- OTHER_FRAME: it counts as good; a peer part's goes to the Roster; one with the station's own number and role 1 is a
clash; any other is handed to no block (R136, R137). It is never the station's own frame. -/
def execOtherFrame (_precedence kind : Byte) (_body : List Byte) (s : State) : Host.Outcome State Fault Refusal :=
  frameEvent s (fun s =>
    let s := s.frameEnds false (kindRole kind) (kindLaptop kind)
    if kindRole kind = 1 then s.rosterHears (kindLaptop kind) else s)

end Sys2Proof.Machine
end

