-- ==== Sys2Proof/Machine/Keys.lean ====
section
/-! DEFINITION. The scan pass (chapter 3) and the keys the Round Controller takes (chapters 2, 3, 4 and 8). -/

namespace Sys2Proof.Machine

open Sys2Proof

/-! ## SCAN_PASS (R49 to R53) -/

/-- A key's state and run count after its reading, and whether it is a press candidate of the pass (R50). -/
def readKey (down : Bool) (k : KeyCell) : KeyCell × Bool :=
  match k.state, down with
  | .up, false => ({ k with run := 0 }, false)
  | .up, true => if k.run < 2 then ({ k with run := k.run + 1 }, false) else (k, true)
  | .down, true => ({ k with run := 0 }, false)
  | .down, false => if k.run < 2 then ({ k with run := k.run + 1 }, false) else (KeyCell.up, false)
  | .blocked, true => ({ k with run := 0 }, false)
  | .blocked, false => if k.run < 2 then ({ k with run := k.run + 1 }, false) else (KeyCell.up, false)

/-- Whether the key of a code is DOWN. -/
def keyDown (keys : List KeyCell) (code : Nat) : Bool := (keys.getD code KeyCell.up).state == .down

/-- Whether a candidate fails the ghost test: three DOWN keys at the other corners of a rectangle of the matrix; key code
is row × 8 + column (03 section 3.1, R52). -/
def ghost (keys : List KeyCell) (code : Nat) : Bool :=
  let r := code / 8
  let c := code % 8
  (List.range 8).any (fun r' => (List.range 8).any (fun c' =>
    r' != r && c' != c && keyDown keys (r * 8 + c') && keyDown keys (r' * 8 + c) && keyDown keys (r' * 8 + c')))

/-- A press candidate meets the ghost test: BLOCKED, or DOWN with its code offered to the Key Queue (R51). -/
def State.considerKey (s : State) (code : Nat) : State :=
  if ghost s.scanner.keys code then
    s.setScanner { s.scanner with keys := s.scanner.keys.set code { state := .blocked, run := 0 } }
  else
    (s.setScanner { s.scanner with keys := s.scanner.keys.set code { state := .down, run := 0 } }).offerKey code

/-- The press candidates of a pass, in increasing key code (R50, R51). -/
def pressCandidates (down : BitVec 64) (keys : List KeyCell) : List Nat :=
  (List.range keys.length).filter (fun k => (readKey (down.getLsbD k) (keys.getD k KeyCell.up)).2)

/-- The keys after their readings, before the candidates are considered (R50). -/
def readKeys (down : BitVec 64) (keys : List KeyCell) : List KeyCell :=
  keys.mapIdx (fun k x => (readKey (down.getLsbD k) x).1)

/-- One scan pass (R49). -/
def State.scan (s : State) (down : BitVec 64) : State :=
  (pressCandidates down s.scanner.keys).foldl State.considerKey
    (s.setScanner { s.scanner with keys := readKeys down s.scanner.keys })

/-- The set of BLOCKED keys in key code order (R53). -/
def Scanner.ghostLock (x : Scanner) : List Nat :=
  (List.range x.keys.length).filter (fun k => (x.keys.getD k KeyCell.up).state == .blocked)

/-- SCAN_PASS. Passes are stopped in doze, and run through the settle (R49, R61, R62). -/
def execScanPass (down : BitVec 64) (s : State) : Host.Outcome State Fault Refusal :=
  match s.power with
  | .dozing => .next s
  | .awake | .settling _ => .next (s.scan down)

/-! ## Taking a key (R55) -/

/-- Whether the Round Controller is in a state that takes keys (R55). -/
def RoundState.takesKeys : RoundState → Bool
  | .soloOpening | .circleOpening => false
  | _ => true

/-- The code the Round Controller takes next: the head of the Key Queue, in a state that takes keys, not dozing or settling
(R55). -/
def State.nextKey (s : State) : Option Nat :=
  if s.power = .awake ∧ s.round.state.takesKeys = true then s.scanner.queue.head? else none

/-- The head code leaves the Key Queue; in SOLO_OPEN it restarts the round timer (R55, R69). -/
def State.dropKey (s : State) : State :=
  let s := s.setScanner { s.scanner with queue := s.scanner.queue.tail }
  if s.round.state = .soloOpen then s.setRound { s.round with soloTimer := .running Config.roundSeconds } else s

/-- A key command: the Round Controller takes the head code when it is of the command's class; otherwise the command finds
no such key to take (log 9). -/
def keyEvent (s : State) (fits : Nat → Bool) (use : Nat → State → State) : Host.Outcome State Fault Refusal :=
  match s.nextKey with
  | some k => if fits k then .next (use k s.dropKey).grant else .next s
  | none => .next s

/-- A key the Round Controller does not use in its state: discarded in review, else forwarded, with the buzz for a letter or
Done when the station is not a player (R56, R57, R58). -/
def unusedKey (k : Nat) (s : State) : State :=
  match s.round.state with
  | .soloReview => s
  | .circleSpectator | .circleLost =>
    if k < 26 ∨ k = Config.keyDone then (s.forwardKey k).speakOwn [Config.phraseBuzz] else s.forwardKey k
  | .idle | .circleDealing | .soloOpening | .soloOpen | .circleOpening | .circlePlayer => s.forwardKey k

/-- Whether the Round Controller uses a key itself in a state (R58, Table 3-2). -/
def RoundState.usesKey (x : RoundState) (k : Nat) : Bool :=
  match x with
  | .soloOpen | .circlePlayer => decide (k < 30)
  | .soloReview => k == Config.keyDone
  | _ => false

/-- A letter key, by state (R70, R160, R56 to R58); its letter code is the key code plus 1. -/
def useLetter (k : Nat) (s : State) : State :=
  match s.round.state with
  | .soloOpen => s.soloLetter (k + 1)
  | .circlePlayer => s.circleLetter (k + 1)
  | _ => unusedKey k s

/-- LETTER_KEY. -/
def execLetterKey (s : State) : Host.Outcome State Fault Refusal :=
  keyEvent s (fun k => decide (k < 26)) useLetter

/-- Erase, by state (R33, R161). -/
def useErase (k : Nat) (s : State) : State :=
  match s.round.state with
  | .soloOpen => s.soloErase
  | .circlePlayer => s.speakOwn [Config.phraseBuzz]
  | _ => unusedKey k s

/-- ERASE_KEY. -/
def execEraseKey (s : State) : Host.Outcome State Fault Refusal :=
  keyEvent s (· == Config.keyErase) useErase

/-- Done, by state (R73, R78, R161). -/
def useDone (k : Nat) (s : State) : State :=
  match s.round.state with
  | .soloOpen => s.soloDone
  | .soloReview => s.reviewDone
  | .circlePlayer => s.circleDone
  | _ => unusedKey k s

/-- DONE_KEY. -/
def execDoneKey (s : State) : Host.Outcome State Fault Refusal :=
  keyEvent s (· == Config.keyDone) useDone

/-- Repeat, by state (R71, R161). -/
def useRepeat (k : Nat) (s : State) : State :=
  match s.round.state with
  | .soloOpen | .circlePlayer => s.sayAgain
  | _ => unusedKey k s

/-- REPEAT_KEY. -/
def execRepeatKey (s : State) : Host.Outcome State Fault Refusal :=
  keyEvent s (· == Config.keyRepeat) useRepeat

/-- Hint, by state (R72, R161). -/
def useHint (k : Nat) (s : State) : State :=
  match s.round.state with
  | .soloOpen | .circlePlayer => s.giveHint
  | _ => unusedKey k s

/-- HINT_KEY. -/
def execHintKey (s : State) : Host.Outcome State Fault Refusal :=
  keyEvent s (· == Config.keyHint) useHint

/-- OTHER_KEY: any key the Round Controller does not use in its state (R56 to R58). -/
def execOtherKey (s : State) : Host.Outcome State Fault Refusal :=
  keyEvent s (fun k => !s.round.state.usesKey k) unusedKey

end Sys2Proof.Machine
end

