-- ==== Sys2Proof/Machine/Line.lean ====
section
/-! DEFINITION. The receiver and the transmitter on the line (R127 to R130, R142): openings, glitches, quiet gaps, offers,
arbitration losses, discards. -/

namespace Sys2Proof.Machine

open Sys2Proof

/-- OPENING_LOW: in READY a falling edge begins a frame at cell 0, which the station joins when it has a frame ready; in
GAP WAIT it is a low that resets the count (R127, R128). -/
def execOpeningLow (s : State) : Host.Outcome State Fault Refusal :=
  match s.link.receiver with
  | .ready => .next ((s.setReceiver (.inFrame 0)).offerFrame 0)
  | .gapWait _ => .next (s.setReceiver (.gapWait 0))
  | .off | .inFrame _ => .next s

/-- GLITCH: a low that ends before cell 12 is no frame; a station that drives the opening low cannot see one (R127). -/
def execGlitch (s : State) : Host.Outcome State Fault Refusal :=
  match s.link.receiver, s.link.inFlight with
  | .inFrame cell, none => if cell < 12 then .next (s.setReceiver (.gapWait 0)) else .next s
  | _, _ => .next s

/-- QUIET_GAP: each high cell adds 1 to GAP WAIT's count; at 16 the receiver is READY (R127). -/
def execQuietGap (cells : Nat) (s : State) : Host.Outcome State Fault Refusal :=
  match s.link.receiver with
  | .gapWait count =>
    if Config.quietCells ≤ count + cells then .next (s.setReceiver .ready)
    else .next (s.setReceiver (.gapWait (count + cells)))
  | .off | .ready | .inFrame _ => .next s

/-- LOW_IN_GAP_WAIT: a low in GAP WAIT resets the count to 0, and is no frame and no bad frame (R127). -/
def execLowInGapWait (s : State) : Host.Outcome State Fault Refusal :=
  match s.link.receiver with
  | .gapWait _ => .next (s.setReceiver (.gapWait 0))
  | .off | .ready | .inFrame _ => .next s

/-- FRAME_OFFER: in READY a station with a frame ready begins it at cell 0; within cells 0 and 1 of another's opening low
it joins; from cell 2 on it waits (R128, R142). -/
def execFrameOffer (cell : Nat) (s : State) : Host.Outcome State Fault Refusal :=
  match s.link.receiver, s.link.inFlight with
  | .ready, none => .next (s.offerFrame 0)
  | .inFrame reached, none => if reached ≤ cell ∧ cell ≤ 1 then .next (s.offerFrame cell) else .next s
  | _, _ => .next s

/-- ARBITRATION_LOSS: the line is read low in a data cell. A sender that sent a 1 there has lost its frame, drives no more
and reads on; one that sent a 0 carries on (R129). -/
def execArbitrationLoss (cell : Nat) (s : State) : Host.Outcome State Fault Refusal :=
  match s.link.receiver, s.link.inFlight with
  | .inFrame reached, some x =>
    if reached ≤ cell then
      if x.frame.sendsOne cell then .next (s.setReceiver (.inFrame cell)).dropFrame
      else .next (s.setReceiver (.inFrame cell))
    else .next s
  | _, _ => .next s

/-- FRAME_DISCARD (R130, R133, R134, R138). -/
def execFrameDiscard (cause : DiscardCause) (s : State) : Host.Outcome State Fault Refusal :=
  frameEvent s (fun s => s.discard cause)

end Sys2Proof.Machine
end

