-- ==== Sys2Proof/Machine/Requests.lean ====
section
/-! DEFINITION. RESET and the requests of the lesson controller (chapter 9), with the operations they share. -/

namespace Sys2Proof.Machine

open Sys2Proof

/-! ## RESET -/

/-- RESET: every block takes its reset values and the laptop number is read from the pins (R147 and the tables of values
after reset). The commands that wait outside the part stay (log 11). -/
def execReset (laptop : BitVec 3) (s : State) : Host.Outcome State Fault Refusal :=
  .next ((State.resetWith laptop).setPending s.pending)

/-! ## Taking a request (R172) -/

/-- A REPLY without data. -/
def plainReply (code : Nat) (outcome : ReplyOutcome) (adjusted : Bool) : Reply :=
  { code := code, outcome := outcome, adjusted := adjusted, data := [] }

/-- The Request Handler takes a request: with the answer slot full it is not executed and REQUEST_OVERRUN is set; else it
is executed and its REPLY is placed in the slot (R172). -/
def State.takeRequest (s : State) (run : State → State × Reply) : State :=
  match s.answer with
  | some _ => s.setFlags { s.flags with requestOverrun := true }
  | none => (run s).1.setAnswer (some (run s).2)

/-- A REQUEST frame of the station's own lesson controller ends good: it counts as every good frame does, and its request
is taken in the same event (R134, R136, R172). -/
def request (s : State) (run : State → State × Reply) : Host.Outcome State Fault Refusal :=
  frameEvent s (fun s => (s.frameEnds false 0 s.laptop.toNat).takeRequest run)

/-! ## SETUP (R173, R174) -/

/-- Whether a SETUP is taken now (R173). -/
def State.setupTaken (s : State) : Bool :=
  (s.round.state == .idle || s.round.state == .circleDealing) && s.words.state != .loading

/-- SETUP part 0: the setup values and the confusable-pair table are replaced in one event (R22, R173). -/
def commitSetup (args : List Byte) (s : State) : State × Reply :=
  let formed := formPairs s.staged.flatten
  ((s.setSetup (setupOf args)).setJudge { s.judge with pairs := formed.1 },
   plainReply Config.codeSetup .done (setupCountAdjusted 0 args || setupClamped args || formed.2))

/-- SETUP part 1..4: the pairs of that part are replaced, and nothing else (R174). -/
def stageSetup (part : Nat) (args : List Byte) (s : State) : State × Reply :=
  (s.setStaged (s.staged.set (part - 1) (stagedPairs args)),
   plainReply Config.codeSetup .done (setupCountAdjusted part args || clamped 0 4 (byteAt args 0)))

/-- A SETUP by its part number, clamped to 0..4; BUSY when it cannot be taken (R173). -/
def setupRequest (args : List Byte) (s : State) : State × Reply :=
  let part := clamp 0 4 (byteAt args 0)
  if s.setupTaken then (if part = 0 then commitSetup args s else stageSetup part args s)
  else (s, plainReply Config.codeSetup .busy (setupCountAdjusted part args))

/-- SETUP with part 0 (R173). -/
def execSetup (args : List Byte) (s : State) : Host.Outcome State Fault Refusal :=
  request s (setupRequest args)

/-- SETUP with a part 1..4 (R174). -/
def execSetupStage (args : List Byte) (s : State) : Host.Outcome State Fault Refusal :=
  request s (setupRequest args)

/-! ## LOAD LIST (R3, R6) -/

/-- A load ends: the Word Table's state, contents and identity and the Progress Table are set by the outcome, and a LIST
record is posted (R6, R10, R17). -/
def State.endLoad (s : State) (outcome : LoadOutcome) (identity : BitVec 16) : State :=
  let s := s.setLoader none
  let s :=
    match outcome with
    | .absent | .badMark => s.setWords { state := .empty, identity := 0, records := [] }
    | .loaded | .truncated =>
      let s := (s.setProgress (List.replicate Config.wordLimit { box := 0, rest := 0 })).setPrevious none
      if s.words.records = [] then s.setWords { state := .empty, identity := 0, records := [] }
      else s.setWords { s.words with state := .ready, identity := identity }
  s.post (.list outcome s.words.records.length)

/-- The transfer that a load's phase asks for: the header, a count byte, or the m + 4 bytes after it (R3 to R5). -/
def Load.asks (l : Load) : TransferKind :=
  match l.phase with
  | .header => .header
  | .countByte => .countByte l.address
  | .body m => .body l.address (m + 4)

/-- The List Loader asks for the transfer its phase calls for, when it has none waiting or in flight (R98). -/
def State.loaderAsks (s : State) : State :=
  match s.loader with
  | none => s
  | some l =>
    if s.hasTransfer .loader then s
    else s.ask .loader l.asks

/-- LOAD LIST (R3). Until its header is read the load holds word count 0, no records to take, no cut and identity 0 (DESIGN
CHOICE, log 38): the manual gives these only as read from the header. -/
def loadListRequest (seated : Bool) (args : List Byte) (s : State) : State × Reply :=
  if s.round.state ≠ .idle ∨ s.words.state = .loading then
    (s, plainReply Config.codeLoadList .busy (countAdjusted 0 args))
  else
    let s := s.setWords { state := .loading, identity := 0, records := [] }
    let s := s.setLoader
      (some { phase := .header, address := 0, wordCount := 0, toTake := 0, cut := false, identity := 0 })
    (if seated then s.loaderAsks else s.endLoad .absent 0,
     plainReply Config.codeLoadList .started (countAdjusted 0 args))

/-- LOAD LIST, with the cartridge-present pin's reading (R3). -/
def execLoadList (seated : Bool) (args : List Byte) (s : State) : Host.Outcome State Fault Refusal :=
  request s (loadListRequest seated args)

/-! ## START SOLO, START CIRCLE, END ROUND -/

/-- The word number that asks for the choice rule (R65, R154). -/
def choiceWord : Nat := 255

/-- The word of a start request after its state checks: the named word, REFUSED when it is absent, unusable or excluded;
or the chosen word with the choice's updates, NO_WORD when the choice fails (R65, R154, R16, R18). -/
def State.startWord (s : State) (w : Nat) : Except ReplyOutcome (State × Nat) :=
  if w = choiceWord then
    match s.choice with
    | some p => .ok (s.chose p, p)
    | none => .error .noWord
  else if s.words.records.length ≤ w ∨ s.usable w = false ∨ s.excluded w = true then .error .refused
  else .ok (s, w)

/-- START SOLO's checks before the word, in order (R65). -/
def State.soloCheck (s : State) : Option ReplyOutcome :=
  if s.round.state ≠ .idle then some .busy
  else if s.words.state = .loading then some .busy
  else if s.words.state = .empty then some .noList
  else none

/-- START SOLO (R65, R66). -/
def startSoloRequest (args : List Byte) (s : State) : State × Reply :=
  let adjusted := countAdjusted 1 args
  match s.soloCheck with
  | some o => (s, plainReply Config.codeStartSolo o adjusted)
  | none =>
    match s.startWord (byteAt args 0) with
    | .error o => (s, plainReply Config.codeStartSolo o adjusted)
    | .ok (s, w) =>
      (s.openSolo w, { code := Config.codeStartSolo, outcome := .started, adjusted := adjusted, data := [Byte.of w] })

/-- START SOLO. -/
def execStartSolo (args : List Byte) (s : State) : Host.Outcome State Fault Refusal :=
  request s (startSoloRequest args)

/-- START CIRCLE's checks before the word, in order (R154). -/
def State.circleCheck (s : State) : Option ReplyOutcome :=
  match s.soloCheck with
  | some o => some o
  | none => if s.setup.circle = false then some .busy else if s.link.state = .troubled then some .busy else none

/-- Begins a deal on a word: DEAL entry, deal facts, CIRCLE_DEALING (R152, R155). -/
def State.beginDeal (s : State) (w : Nat) : State :=
  let tag := (s.round.lastTag + 1) % 16
  let count := ((s.wordAt w).map (·.letters.length)).getD 0
  let s := s.queueFrame .deal (bytes16 s.words.identity ++ [Byte.of w, Byte.of tag, Byte.of count])
  s.setRound { s.round with deal := some { tag := tag, word := w }, state := .circleDealing }

/-- START CIRCLE (R154, R155). -/
def startCircleRequest (args : List Byte) (s : State) : State × Reply :=
  let adjusted := countAdjusted 1 args
  match s.circleCheck with
  | some o => (s, plainReply Config.codeStartCircle o adjusted)
  | none =>
    match s.startWord (byteAt args 0) with
    | .error o => (s, plainReply Config.codeStartCircle o adjusted)
    | .ok (s, w) =>
      (s.beginDeal w,
       { code := Config.codeStartCircle, outcome := .started, adjusted := adjusted, data := [Byte.of w] })

/-- START CIRCLE. -/
def execStartCircle (args : List Byte) (s : State) : Host.Outcome State Fault Refusal :=
  request s (startCircleRequest args)

/-- Ends an open round or deal without a record (R170, R181). -/
def State.leaveRound (s : State) : State :=
  match s.round.state with
  | .idle => s
  | .soloOpening | .soloOpen | .soloReview => s.toIdle
  | .circleDealing => (s.removeKind .deal).toIdle
  | .circleOpening | .circlePlayer | .circleSpectator | .circleLost => s.removeRoundFrames.removePending.toIdle

/-- What END ROUND does by state (R80, R170, R180). -/
def State.endRound (s : State) : State :=
  match s.round.state with
  | .soloOpening | .soloOpen => (s.post (s.resultRecord .solo .abandoned 0)).leaveRound
  | .idle | .soloReview | .circleDealing | .circleOpening | .circlePlayer | .circleSpectator | .circleLost => s.leaveRound

/-- END ROUND (R180). -/
def endRoundRequest (args : List Byte) (s : State) : State × Reply :=
  (s.endRound, plainReply Config.codeEndRound .done (countAdjusted 0 args))

/-- END ROUND. -/
def execEndRound (args : List Byte) (s : State) : Host.Outcome State Fault Refusal :=
  request s (endRoundRequest args)

/-! ## SAY, SPELL, STOP -/

/-- The entry of a SAY: source CONTROLLER, its phrase and priority clamped, the own pitch, its tag, no mark (R175). -/
def State.sayEntry (s : State) (args : List Byte) : Entry where
  source := .controller
  priority := clamp 0 3 (byteAt args 2)
  start := .phrase (clamp 0 511 (word16At args 0))
  pitch := s.setup.ownPitch
  tag := byteAt args 3
  markNo := none

/-- QUEUED, or DROPPED when the entry was dropped at the offer (R175, R176). -/
def offerOutcome (joined : Bool) : ReplyOutcome := if joined then .queued else .dropped

/-- SAY (R175). -/
def sayRequest (args : List Byte) (s : State) : State × Reply :=
  let r := s.offer (s.assign .controller) (s.sayEntry args)
  (r.1, plainReply Config.codeSay (offerOutcome r.2)
    (countAdjusted 4 args || clamped 0 511 (word16At args 0) || clamped 0 3 (byteAt args 2)))

/-- SAY. -/
def execSay (args : List Byte) (s : State) : Host.Outcome State Fault Refusal :=
  request s (sayRequest args)

/-- SPELL's checks, in order (R176). -/
def State.spellCheck (s : State) (w : Nat) : Option ReplyOutcome :=
  if s.words.state = .loading then some .busy
  else if s.words.state = .empty then some .noList
  else if s.words.records.length ≤ w then some .refused
  else if s.usable w = false then some .refused
  else none

/-- SPELL (R176). -/
def spellRequest (args : List Byte) (s : State) : State × Reply :=
  let adjusted := countAdjusted 2 args
  let w := byteAt args 0
  let tag := byteAt args 1
  match s.spellCheck w with
  | some o => (s, plainReply Config.codeSpell o adjusted)
  | none =>
    match s.compose (((s.wordAt w).map (·.letters)).getD []) with
    | (s, none) =>
      (if tag ≠ 0 then s.post (.spoken tag .dropped) else s,
       { code := Config.codeSpell, outcome := .dropped, adjusted := adjusted, data := [0] })
    | (s, some x) =>
      let r := s.offer (s.assign .controller) { s.entry .controller 1 (.slot x.head) false with tag := tag }
      (r.1, { code := Config.codeSpell, outcome := offerOutcome r.2, adjusted := adjusted, data := [Byte.of x.letters] })

/-- SPELL. -/
def execSpell (args : List Byte) (s : State) : Host.Outcome State Fault Refusal :=
  request s (spellRequest args)

/-- Stops the voice or voices a STOP names: 0 voice A, 1 voice B, 2 both (R177). -/
def State.stopNamed (s : State) (n : Nat) : State :=
  match n with
  | 0 => s.stopVoice false .A
  | 1 => s.stopVoice false .B
  | _ => s.stopBoth false

/-- STOP (R177). -/
def stopRequest (args : List Byte) (s : State) : State × Reply :=
  (s.stopNamed (clamp 0 2 (byteAt args 0)),
   plainReply Config.codeStop .done (countAdjusted 1 args || clamped 0 2 (byteAt args 0)))

/-- STOP. -/
def execStop (args : List Byte) (s : State) : Host.Outcome State Fault Refusal :=
  request s (stopRequest args)

/-! ## STATUS, PROGRESS, EXCLUDE, ROSTER -/

/-- STATUS: answered DONE; its data bytes are filled when its frame is offered (R178, `replyBody`). -/
def statusRequest (args : List Byte) (s : State) : State × Reply :=
  (s, plainReply Config.codeStatus .done (countAdjusted 0 args))

/-- STATUS. -/
def execStatus (args : List Byte) (s : State) : Host.Outcome State Fault Refusal :=
  request s (statusRequest args)

/-- PROGRESS (R12, R179). -/
def progressRequest (args : List Byte) (s : State) : State × Reply :=
  let adjusted := countAdjusted 1 args
  let w := byteAt args 0
  (s,
   if s.words.state = .loading then plainReply Config.codeProgress .busy adjusted
   else if s.words.state = .empty then plainReply Config.codeProgress .noList adjusted
   else if s.words.records.length ≤ w then plainReply Config.codeProgress .refused adjusted
   else { code := Config.codeProgress, outcome := .done, adjusted := adjusted,
          data := [Byte.of (s.progressAt w).box, Byte.of (s.progressAt w).rest] })

/-- PROGRESS. -/
def execProgress (args : List Byte) (s : State) : Host.Outcome State Fault Refusal :=
  request s (progressRequest args)

/-- EXCLUDE: the named window's bounds are replaced, index and bounds clamped (R13). -/
def excludeRequest (args : List Byte) (s : State) : State × Reply :=
  (s.setWindows (s.windows.set (clamp 0 3 (byteAt args 0))
    { low := clamp 0 64 (byteAt args 1), high := clamp 0 64 (byteAt args 2) }),
   plainReply Config.codeExclude .done
    (countAdjusted 3 args || clamped 0 3 (byteAt args 0) || clamped 0 64 (byteAt args 1) ||
      clamped 0 64 (byteAt args 2)))

/-- EXCLUDE. -/
def execExclude (args : List Byte) (s : State) : Host.Outcome State Fault Refusal :=
  request s (excludeRequest args)

/-- The data bytes of a Roster entry in a ROSTER REPLY (Table 9-1). -/
def rosterData (laptop : Nat) (e : RosterEntry) : List Byte :=
  [Byte.of laptop, Byte.of (bit e.identity.isSome)] ++ bytes16 (e.identity.getD 0) ++
    [Byte.of e.age, Byte.of e.placed, Byte.of e.onLetters, Byte.of e.dealt]

/-- ROSTER (R179). -/
def rosterRequest (args : List Byte) (s : State) : State × Reply :=
  let adjusted := countAdjusted 1 args
  let entries := rosterEntries s.roster
  (s,
   match entries[byteAt args 0]? with
   | some (n, e) =>
     { code := Config.codeRoster, outcome := .done, adjusted := adjusted,
       data := Byte.of entries.length :: rosterData n e }
   | none =>
     { code := Config.codeRoster, outcome := .refused, adjusted := adjusted, data := [Byte.of entries.length] })

/-- ROSTER. -/
def execRoster (args : List Byte) (s : State) : Host.Outcome State Fault Refusal :=
  request s (rosterRequest args)

/-! ## RESTART, DOZE, unknown requests -/

/-- RESTART: the round or deal ends without a record, the round facts take their reset values (the last tag is kept, and the
number the next mark takes), both voices are stopped without SPOKEN records, the Key Queue and the transmit queue are
emptied; a frame in flight goes on (R64, R81, R119, R147, R181). -/
def State.restart (s : State) : State :=
  let s := s.leaveRound.clearAttempt
  let s := s.setRound { Round.reset with lastTag := s.round.lastTag, marks := s.round.marks }
  let s := s.stopBoth true
  let s := s.setScanner { s.scanner with queue := [] }
  s.emptyQueue

/-- RESTART (R181). -/
def restartRequest (args : List Byte) (s : State) : State × Reply :=
  (s.restart, plainReply Config.codeRestart .done (countAdjusted 0 args))

/-- RESTART. -/
def execRestart (args : List Byte) (s : State) : Host.Outcome State Fault Refusal :=
  request s (restartRequest args)

/-- Whether DOZE is answered BUSY (R182). -/
def State.dozeBusy (s : State) : Bool :=
  s.round.state != .idle || s.words.state == .loading || s.voiceA.current.isSome || s.voiceB.current.isSome ||
    s.link.queue != []

/-- DOZE: on DONE the station is going to doze, which the reply in the answer slot says (R145, R182). -/
def dozeRequest (args : List Byte) (s : State) : State × Reply :=
  (s, plainReply Config.codeDoze (if s.dozeBusy then .busy else .done) (countAdjusted 0 args))

/-- DOZE. -/
def execDoze (args : List Byte) (s : State) : Host.Outcome State Fault Refusal :=
  request s (dozeRequest args)

/-- A request code other than 1..14 is answered UNKNOWN, with no data and no other effect (R172). -/
def unknownRequest (code : Byte) (s : State) : State × Reply :=
  (s, plainReply code.toNat .unknown false)

/-- A request with an unknown code; its argument bytes are not matched to anything. -/
def execUnknownRequest (code : Byte) (_args : List Byte) (s : State) : Host.Outcome State Fault Refusal :=
  request s (unknownRequest code)

end Sys2Proof.Machine
end

