-- ==== Sys2Proof/Machine/Sound.lean ====
section
/-! DEFINITION. The frame boundary of a voice (R112 to R115) and the Mixer's sample period (R122 to R124). -/

namespace Sys2Proof.Machine

open Sys2Proof

/-! ## FRAME_BOUNDARY -/

/-- Renders one frame for the next frame time: the frame at the buffer head; or waiting silence before the first frame; or
underrun silence, which is counted (R112). The walk then advances (R111). -/
def State.renderFrame (s : State) (v : VoiceId) : State :=
  let x := s.voice v
  match x.current, x.buffer with
  | none, _ => s
  | some c, f :: rest =>
    (s.setVoice v { x with
      current := some { c with rendered := true, restart := f.point }, buffer := rest, rendering := f.sound }).advance v
  | some c, [] =>
    let s := s.setVoice v { x with rendering := .silence }
    if c.rendered then s.setUnderruns (raise 255 s.underruns) else s

/-- Pushes a preempted context onto a full or part-full resume stack; the context that falls off the bottom (R115). -/
def pushContext (c : Context) (stack : List Context) : List Context × List Context :=
  ((c :: stack).take Config.resumeLimit, (c :: stack).drop Config.resumeLimit)

/-- A voice's current utterance is preempted by its queue head (R114, R115). -/
def State.preempt (s : State) (v : VoiceId) (c : Context) (e : Entry) : State :=
  let x := s.voice v
  let p := pushContext c x.stack
  let s := s.setVoice v { x with
    current := none, queue := queueRest x.queue, stack := p.1, buffer := [], rendering := .silence }
  let s := s.withdraw (.voice v)
  let s := p.2.foldl (fun s d => s.endEntry false d.entry .cut) s
  s.startEntry v e

/-- A frame boundary of a SOUNDING voice: first the end of its utterance, then preemption, then one frame (R112 to R114).
After an end, the boundary is the next utterance's first, and its frame is waiting silence. -/
def State.boundary (s : State) (v : VoiceId) : State :=
  let x := s.voice v
  match x.current with
  | none => s
  | some c =>
    match c.place, x.buffer with
    | .finished outcome, [] => (s.endCurrent v outcome).renderFrame v
    | _, _ =>
      match queueHead x.queue with
      | some e => if c.entry.priority < e.priority then (s.preempt v c e).renderFrame v else s.renderFrame v
      | none => s.renderFrame v

/-- FRAME_BOUNDARY. A QUIET voice has no frame boundaries (R110, R118). -/
def execFrameBoundary (v : VoiceId) (s : State) : Host.Outcome State Fault Refusal :=
  .next (s.boundary v).grant

/-! ## SAMPLE_PERIOD -/

/-- The sample a voice delivers: 0 when QUIET or rendering silence, else what the frame it renders gives (R110). The sound
decoder lies outside the manual, so that sample is an operand of the command (log 13). -/
def Voice.sample (x : Voice) (given : BitVec 12) : Int :=
  match x.current, x.rendering with
  | some _, .frame _ => given.toInt
  | _, _ => 0

/-- The effective gain of voice B: halved, rounded down, while duck is ON and voice A is SOUNDING (R122). -/
def State.gainOfB (s : State) : Nat :=
  if s.setup.duck = true ∧ s.voiceA.current.isSome = true then s.setup.gainB / 2 else s.setup.gainB

/-- The mix before the clamp: the gained sum times the volume, divided by 128 and truncated toward zero (R123). -/
def mixed (a b : Int) (gainA gainB volume : Nat) : Int :=
  ((a * gainA + b * gainB) * volume).tdiv 128

/-- The clamp to −2048..2047 (R123). -/
def clampSample (x : Int) : Int := max (-2048) (min 2047 x)

/-- The Mixer in one sample period (R123, R124). -/
def State.mix (s : State) (a b : BitVec 12) : State :=
  let raw := mixed (s.voiceA.sample a) (s.voiceB.sample b) s.setup.gainA s.gainOfB s.setup.volume
  if clampSample raw = raw then s.setMixer { s.mixer with output := raw }
  else
    (s.setMixer { clips := raise 255 s.mixer.clips, output := clampSample raw }).setFlags
      { s.flags with clipped := true }

/-- SAMPLE_PERIOD. -/
def execSamplePeriod (a b : BitVec 12) (s : State) : Host.Outcome State Fault Refusal :=
  .next (s.mix a b)

end Sys2Proof.Machine
end

