-- ==== Sys2Proof/Machine/Ticks.lean ====
section
/-! DEFINITION. The timers (R74, R144, R150, R169) and waking from doze (R61, R146). -/

namespace Sys2Proof.Machine

open Sys2Proof

/-- ROUND_TIMER_EXPIRY: the solo round timer runs only in SOLO_OPEN (R69, R74). -/
def execRoundTimerExpiry (s : State) : Host.Outcome State Fault Refusal :=
  match s.round.state, s.round.soloTimer with
  | .soloOpen, .running _ => .next s.soloExpires.grant
  | _, _ => .next s

/-- CIRCLE_TIMER_EXPIRY: the circle timer runs in the four states of an open circle round (R153, R169). -/
def execCircleTimerExpiry (s : State) : Host.Outcome State Fault Refusal :=
  match s.round.state.circleOpen, s.round.circleTimer with
  | true, .running _ => .next s.circleExpires.grant
  | _, _ => .next s

/-- The body of a BEAT, filled at the tick (R144, Table 7-2). -/
def beatBody (s : State) : List Byte :=
  bytes16 s.words.identity ++ [summaryByte s, Byte.of s.round.lastTag]

/-- A tick of the beat timer: a BEAT is queued when beat is ON, the Roster ages, the clash hold falls (R144, R150, R137). -/
def State.tick (s : State) : State :=
  let s := if s.setup.beat then s.queueBeat (beatBody s) else s
  let s := s.removeAged.ageRoster
  s.setLink { s.link with clashHold := s.link.clashHold - 1 }

/-- BEAT_TICK. The beat timer is stopped in doze and through the settle (R144 to R146). -/
def execBeatTick (s : State) : Host.Outcome State Fault Refusal :=
  match s.power with
  | .awake => .next s.tick
  | .dozing | .settling _ => .next s

/-- ROSTER_AGE_OUT: the entries whose age would reach 3 are removed, with their PEER LEFT records (R150, log 8). -/
def execRosterAgeOut (s : State) : Host.Outcome State Fault Refusal :=
  match s.power with
  | .awake => .next s.removeAged
  | .dozing | .settling _ => .next s

/-- KEY_WAKE: in doze the part wakes with cause KEY; a wake under way starts no second one (R61). -/
def execKeyWake (s : State) : Host.Outcome State Fault Refusal :=
  match s.power with
  | .dozing => .next (s.wake .key)
  | .awake | .settling _ => .next s

/-- LINK_WAKE: in doze the part wakes with cause LINK; a wake under way starts no second one (R146). -/
def execLinkWake (s : State) : Host.Outcome State Fault Refusal :=
  match s.power with
  | .dozing => .next (s.wake .link)
  | .awake | .settling _ => .next s

/-- The end of the settle: the receiver enters GAP WAIT, the beat timer starts, the Roster is emptied without PEER records,
a WOKE record is posted (R146, R148). -/
def State.settled (s : State) (cause : WakeCause) : State :=
  (((s.setReceiver (.gapWait 0)).setPower .awake).setRoster (List.replicate 8 none)).post (.woke cause)

/-- SETTLE_END. -/
def execSettleEnd (s : State) : Host.Outcome State Fault Refusal :=
  match s.power with
  | .settling cause => .next (s.settled cause)
  | .awake | .dozing => .next s

end Sys2Proof.Machine
end

