-- ==== Sys2Proof/Machine/Transfers.lean ====
section
/-! DEFINITION. The ends of the Memory Port's transfers: the load of a word list (chapter 1), the directory, descriptor and
frame fetches of the voices and the letter table read (chapter 5); and the removal of the cartridge. -/

namespace Sys2Proof.Machine

open Sys2Proof

/-- The end of a transfer of the kinds that `fits` names: the port is freed, the bytes are handed over by `hand`, and the
arbiter grants the next request, a follow-up included (R99). With no such transfer in flight nothing ends (log 3). -/
def transferEvent (s : State) (fits : TransferKind → Bool) (hand : Transfer → State → State) :
    Host.Outcome State Fault Refusal :=
  match s.port.inFlight with
  | some t => if fits t.kind then .next (hand t s.transferEnds).grant else .next s
  | none => .next s

/-! ## The List Loader (R4 to R7) -/

/-- A loader's transfer ends: its bytes are thrown away when its load has ended, and a new load's request is made then
(R7, R100); else they are taken. -/
def State.loaderTakes (s : State) (t : Transfer) (take : Load → State → State) : State :=
  if t.discarded then s.loaderAsks
  else
    match s.loader with
    | some l => take l s
    | none => s

/-- The header is checked (R4). -/
def takeHeader (bytes : List Byte) (l : Load) (s : State) : State :=
  if headerMarkGood bytes = false ∨ headerCount bytes = 0 then s.endLoad .badMark 0
  else
    (s.setLoader (some { l with
      phase := .countByte, address := 5, wordCount := headerCount bytes,
      toTake := min Config.wordLimit (headerCount bytes), cut := decide (Config.wordLimit < headerCount bytes),
      identity := headerIdentity bytes })).loaderAsks

/-- A record's letter count is checked (R5). -/
def takeCountByte (count : Byte) (l : Load) (s : State) : State :=
  if count.toNat = 0 ∨ 16 < count.toNat then s.endLoad .truncated l.identity
  else (s.setLoader (some { l with phase := .body count.toNat, address := l.address + 1 })).loaderAsks

/-- A record is taken (R5). -/
def takeBody (bytes : List Byte) (l : Load) (s : State) : State :=
  match l.phase with
  | .body m =>
    let s := s.setWords { s.words with records := s.words.records ++ [recordOf m bytes] }
    if l.toTake ≤ s.words.records.length then s.endLoad (if l.cut then .truncated else .loaded) l.identity
    else (s.setLoader (some { l with phase := .countByte, address := l.address + (m + 4) })).loaderAsks
  | .header | .countByte => s

/-- The header transfer completes (R4). -/
def execHeaderTransfer (bytes : List Byte) (s : State) : Host.Outcome State Fault Refusal :=
  transferEvent s (fun k => k == .header) (fun t s => s.loaderTakes t (takeHeader bytes))

/-- Whether a transfer is a count byte transfer. -/
def TransferKind.isCountByte : TransferKind → Bool
  | .countByte _ => true
  | _ => false

/-- A record count byte transfer completes (R5). -/
def execCountByteTransfer (count : Byte) (s : State) : Host.Outcome State Fault Refusal :=
  transferEvent s TransferKind.isCountByte (fun t s => s.loaderTakes t (takeCountByte count))

/-- Whether a transfer is a record body transfer. -/
def TransferKind.isBody : TransferKind → Bool
  | .body _ _ => true
  | _ => false

/-- A record body transfer completes (R5). -/
def execBodyTransfer (bytes : List Byte) (s : State) : Host.Outcome State Fault Refusal :=
  transferEvent s TransferKind.isBody (fun t s => s.loaderTakes t (takeBody bytes))

/-- The cartridge-present pin rises: a load in flight ends ABSENT, and its request is withdrawn or its bytes thrown away
(R7, R100); without a load nothing changes. -/
def execCartridgeRemoved (s : State) : Host.Outcome State Fault Refusal :=
  if s.words.state = .loading then .next ((s.withdraw .loader).endLoad .absent 0) else .next s

/-! ## The letter table read (R94) -/

/-- The letter table read asks for its next transfer. -/
def State.readerAsks (s : State) : State :=
  match s.store.reader with
  | none => s
  | some r =>
    match r.address with
    | none => s.ask .letterTable (.phraseDirectory r.phrase)
    | some a => s.ask .letterTable (.romDescriptor a)

/-- The entry of the phrase the read is at is written; the read goes on to the next phrase, or has ended after 52 (R94). -/
def State.writeLetter (s : State) (r : LetterRead) (e : LetterEntry) : State :=
  (s.setStore { s.store with
    letters := s.store.letters.set (r.phrase - 1) e
    reader := if r.phrase < Config.letterPhrases then some { phrase := r.phrase + 1, address := none } else none
    }).readerAsks

/-- The letter table read takes a phrase directory entry (R94). -/
def State.readerTakesEntry (s : State) (address : BitVec 24) : State :=
  match s.store.reader with
  | none => s
  | some r =>
    if address = Config.emptyAddress then s.writeLetter r .none
    else (s.setStore { s.store with reader := some { r with address := some address } }).readerAsks

/-- The letter table read takes a phrase's first descriptor (R94). -/
def State.readerTakesDescriptor (s : State) (d : Descriptor) : State :=
  match s.store.reader with
  | none => s
  | some r => s.writeLetter r (letterEntryOf d)

/-! ## The voices' fetches (R85 to R91, R99, R111) -/

/-- A voice's transfer ends: its bytes go to the walk unless they are thrown away (R100), and the walk goes on. -/
def State.voiceTakes (s : State) (v : VoiceId) (t : Transfer) (take : Context → Context) : State :=
  if t.discarded then s.goOn v
  else
    match (s.voice v).current with
    | some c => (s.setVoice v { s.voice v with current := some (take c) }).goOn v
    | none => s

/-- The walk takes a phrase directory entry: an empty one ends it COMPLETE (R85, R89). -/
def takeEntry (address : BitVec 24) (c : Context) : Context :=
  if address = Config.emptyAddress then { c with place := .finished .complete }
  else { c with place := .descriptor (.rom address) 1 false }

/-- The walk enters a descriptor: the chain count rises unless it was entered before (R89, R117). -/
def takeDescriptor (d : Descriptor) (c : Context) : Context :=
  match c.place with
  | .descriptor ref pair again =>
    { c with chain := if again then c.chain else c.chain + 1, place := .pairs ref d pair 0 none }
  | .phraseEntry _ | .pairs _ _ _ _ _ | .finished _ => c

/-- The walk takes a segment directory entry (R86, R88). -/
def takeSegment (e : SegEntry) (c : Context) : Context :=
  match c.place with
  | .pairs ref d pair frame _ => { c with place := .pairs ref d pair frame (some e) }
  | .phraseEntry _ | .descriptor _ _ _ | .finished _ => c

/-- The walk passes a frame it has fetched (R88). -/
def passFrame (c : Context) : Context :=
  match c.place with
  | .pairs ref d pair frame seg => { c with place := .pairs ref d pair (frame + 1) seg, yielded := true }
  | .phraseEntry _ | .descriptor _ _ _ | .finished _ => c

/-- A sound frame enters a voice's fetch buffer when its fetch completes (R111). -/
def State.frameArrives (s : State) (v : VoiceId) (t : Transfer) (bytes : List Byte) : State :=
  if t.discarded then s.goOn v
  else
    match (s.voice v).current with
    | some c =>
      (s.setVoice v { s.voice v with
        current := some (passFrame c)
        buffer := (s.voice v).buffer ++ [{ sound := .frame bytes, point := placePoint c.chain c.place }] }).goOn v
    | none => s

/-- Whether a transfer is a phrase directory fetch. -/
def TransferKind.isPhraseDirectory : TransferKind → Bool
  | .phraseDirectory _ => true
  | _ => false

/-- A phrase directory entry is handed to the walk or to the letter table read (R85). -/
def handPhraseEntry (bytes : List Byte) (t : Transfer) (s : State) : State :=
  match t.requester with
  | .voice v => s.voiceTakes v t (takeEntry (addressAt bytes 0))
  | .letterTable => s.readerTakesEntry (addressAt bytes 0)
  | .loader => s

/-- A phrase directory fetch completes. -/
def execPhraseDirectoryFetch (bytes : List Byte) (s : State) : Host.Outcome State Fault Refusal :=
  transferEvent s TransferKind.isPhraseDirectory (handPhraseEntry bytes)

/-- Whether a transfer is a segment directory fetch. -/
def TransferKind.isSegmentDirectory : TransferKind → Bool
  | .segmentDirectory _ => true
  | _ => false

/-- A segment directory entry is handed to the walk (R86). -/
def handSegment (bytes : List Byte) (t : Transfer) (s : State) : State :=
  match t.requester with
  | .voice v => s.voiceTakes v t (takeSegment (segEntryOf bytes))
  | .letterTable | .loader => s

/-- A segment directory fetch completes. -/
def execSegmentDirectoryFetch (bytes : List Byte) (s : State) : Host.Outcome State Fault Refusal :=
  transferEvent s TransferKind.isSegmentDirectory (handSegment bytes)

/-- Whether a transfer is a ROM descriptor fetch. -/
def TransferKind.isRomDescriptor : TransferKind → Bool
  | .romDescriptor _ => true
  | _ => false

/-- A ROM descriptor is handed to the walk or to the letter table read (R87). -/
def handDescriptor (bytes : List Byte) (t : Transfer) (s : State) : State :=
  match t.requester with
  | .voice v => s.voiceTakes v t (takeDescriptor (descriptorOf bytes))
  | .letterTable => s.readerTakesDescriptor (descriptorOf bytes)
  | .loader => s

/-- A ROM descriptor fetch completes. -/
def execRomDescriptorFetch (bytes : List Byte) (s : State) : Host.Outcome State Fault Refusal :=
  transferEvent s TransferKind.isRomDescriptor (handDescriptor bytes)

/-- The slot a RAM descriptor fetch copies. -/
def TransferKind.ramSlot : TransferKind → Option Nat
  | .ramDescriptor n => some n
  | _ => none

/-- A slot's descriptor is handed to the walk (R99). A slot that holds none gives a descriptor without pairs. -/
def handSlot (t : Transfer) (s : State) : State :=
  match t.requester with
  | .voice v =>
    s.voiceTakes v t (takeDescriptor (((t.kind.ramSlot).bind s.store.slot).getD { pairs := [], link := 0 }))
  | .letterTable | .loader => s

/-- A RAM descriptor fetch completes. -/
def execRamDescriptorFetch (s : State) : Host.Outcome State Fault Refusal :=
  transferEvent s (fun k => k.ramSlot.isSome) handSlot

/-- Whether a transfer is a frame fetch. -/
def TransferKind.isFrame : TransferKind → Bool
  | .frame _ => true
  | _ => false

/-- A sound frame is handed to the voice's fetch buffer (R111). -/
def handFrame (bytes : List Byte) (t : Transfer) (s : State) : State :=
  match t.requester with
  | .voice v => s.frameArrives v t bytes
  | .letterTable | .loader => s

/-- A frame fetch completes. -/
def execFrameFetch (bytes : List Byte) (s : State) : Host.Outcome State Fault Refusal :=
  transferEvent s TransferKind.isFrame (handFrame bytes)

end Sys2Proof.Machine
end

