-- ==== Sys2Proof/Machine/Dispatch.lean ====
section
/-! DEFINITION. One arm for each command: its meaning. -/

namespace Sys2Proof.Machine

open Sys2Proof

/-- A command's effect on everything but the queue of waiting commands. -/
def exec (i : Instr) (s : State) : Host.Outcome State Fault Refusal :=
  match i with
  | .reset laptop => Sys2Proof.Machine.execReset laptop s
  | .setup args => Sys2Proof.Machine.execSetup args s
  | .setupStage args => Sys2Proof.Machine.execSetupStage args s
  | .loadList seated args => Sys2Proof.Machine.execLoadList seated args s
  | .startSolo args => Sys2Proof.Machine.execStartSolo args s
  | .startCircle args => Sys2Proof.Machine.execStartCircle args s
  | .endRound args => Sys2Proof.Machine.execEndRound args s
  | .say args => Sys2Proof.Machine.execSay args s
  | .spell args => Sys2Proof.Machine.execSpell args s
  | .stop args => Sys2Proof.Machine.execStop args s
  | .status args => Sys2Proof.Machine.execStatus args s
  | .progress args => Sys2Proof.Machine.execProgress args s
  | .exclude args => Sys2Proof.Machine.execExclude args s
  | .roster args => Sys2Proof.Machine.execRoster args s
  | .restart args => Sys2Proof.Machine.execRestart args s
  | .doze args => Sys2Proof.Machine.execDoze args s
  | .unknownRequest code args => Sys2Proof.Machine.execUnknownRequest code args s
  | .headerTransfer bytes => Sys2Proof.Machine.execHeaderTransfer bytes s
  | .countByteTransfer count => Sys2Proof.Machine.execCountByteTransfer count s
  | .bodyTransfer bytes => Sys2Proof.Machine.execBodyTransfer bytes s
  | .cartridgeRemoved => Sys2Proof.Machine.execCartridgeRemoved s
  | .phraseDirectoryFetch bytes => Sys2Proof.Machine.execPhraseDirectoryFetch bytes s
  | .segmentDirectoryFetch bytes => Sys2Proof.Machine.execSegmentDirectoryFetch bytes s
  | .romDescriptorFetch bytes => Sys2Proof.Machine.execRomDescriptorFetch bytes s
  | .ramDescriptorFetch => Sys2Proof.Machine.execRamDescriptorFetch s
  | .frameFetch bytes => Sys2Proof.Machine.execFrameFetch bytes s
  | .frameBoundary voice => Sys2Proof.Machine.execFrameBoundary voice s
  | .samplePeriod a b => Sys2Proof.Machine.execSamplePeriod a b s
  | .scanPass down => Sys2Proof.Machine.execScanPass down s
  | .letterKey => Sys2Proof.Machine.execLetterKey s
  | .eraseKey => Sys2Proof.Machine.execEraseKey s
  | .doneKey => Sys2Proof.Machine.execDoneKey s
  | .repeatKey => Sys2Proof.Machine.execRepeatKey s
  | .hintKey => Sys2Proof.Machine.execHintKey s
  | .otherKey => Sys2Proof.Machine.execOtherKey s
  | .roundTimerExpiry => Sys2Proof.Machine.execRoundTimerExpiry s
  | .circleTimerExpiry => Sys2Proof.Machine.execCircleTimerExpiry s
  | .beatTick => Sys2Proof.Machine.execBeatTick s
  | .rosterAgeOut => Sys2Proof.Machine.execRosterAgeOut s
  | .keyWake => Sys2Proof.Machine.execKeyWake s
  | .linkWake => Sys2Proof.Machine.execLinkWake s
  | .settleEnd => Sys2Proof.Machine.execSettleEnd s
  | .openingLow => Sys2Proof.Machine.execOpeningLow s
  | .glitch => Sys2Proof.Machine.execGlitch s
  | .quietGap cells => Sys2Proof.Machine.execQuietGap cells s
  | .frameOffer cell => Sys2Proof.Machine.execFrameOffer cell s
  | .arbitrationLoss cell => Sys2Proof.Machine.execArbitrationLoss cell s
  | .frameDiscard cause => Sys2Proof.Machine.execFrameDiscard cause s
  | .beatFrame precedence laptop identity summary lastTag => Sys2Proof.Machine.execBeatFrame precedence laptop identity summary lastTag s
  | .dealFrame precedence laptop identity word tag count => Sys2Proof.Machine.execDealFrame precedence laptop identity word tag count s
  | .letterFrame precedence laptop tag position letter check => Sys2Proof.Machine.execLetterFrame precedence laptop tag position letter check s
  | .closeFrame precedence laptop tag count check => Sys2Proof.Machine.execCloseFrame precedence laptop tag count check s
  | .replyFrame anyKeyClosed => Sys2Proof.Machine.execReplyFrame anyKeyClosed s
  | .reportFrame => Sys2Proof.Machine.execReportFrame s
  | .otherFrame precedence kind body => Sys2Proof.Machine.execOtherFrame precedence kind body s
  | .lowInGapWait => Sys2Proof.Machine.execLowInGapWait s

end Sys2Proof.Machine
end

