-- ==== Sys2Proof/Safety.lean ====
section
/-! DEFINITION. What the manual says always holds of the part, and the words the statements use: bounds, capacities, the
Judge's rows, the QUIET voice, the Memory Port's one request for each requester, the transmit queue's limits. -/

namespace Sys2Proof.Machine

open Sys2Proof

/-! ## When a command is heard -/

/-- Whether the receiver is reading a frame (R127). -/
def State.hearing (s : State) : Bool :=
  match s.link.receiver with
  | .inFrame _ => true
  | .off | .gapWait _ | .ready => false

/-- The arbiter has nothing left to grant: no request waits at a free port (R98). -/
abbrev State.portSettled (s : State) : Prop := s.port.inFlight = none → s.port.waiting = []

/-- The state once a good frame of the own lesson controller has been counted, before its request is looked at (R134). -/
def State.heard (s : State) : State := s.frameEnds false 0 s.laptop.toNat


/-- A request is heard and will be executed: a frame is being read, the answer slot is empty, and no request waits at a free
Memory Port (R172, R98). -/
abbrev State.takesRequest (s : State) : Prop := s.hearing = true ∧ s.answer = none ∧ s.portSettled

/-- Whether a command is a request of the own lesson controller (Table 9-1). -/
def isRequest : Instr → Bool
  | .setup _ | .setupStage _ | .loadList _ _ | .startSolo _ | .startCircle _ | .endRound _ | .say _ | .spell _ => true
  | .stop _ | .status _ | .progress _ | .exclude _ | .roster _ | .restart _ | .doze _ | .unknownRequest _ _ => true
  | _ => false

/-- The state once a good frame of a part has been counted, has left its collection when it is the station's own, and has
reached the Roster, before its kind is looked at (R134 to R137, R149). -/
def State.heardPart (s : State) (f : Frame) (laptop : BitVec 3) : State :=
  (s.frameEnds (s.isOwn f) 1 laptop.toNat).rosterHears laptop.toNat

/-- The state once the station's own frame in flight has been counted and has left its collection (R134, R135). -/
def State.heardOwn (s : State) : State := s.frameEnds true 1 s.laptop.toNat

/-- A part's LETTER frame. -/
def letterOf (precedence : Byte) (laptop : BitVec 3) (tag position letter check : Byte) : Frame :=
  { precedence := precedence, kind := kindByte 3 laptop.toNat 1, body := [tag, position, letter, check] }

/-- A part's CLOSE frame. -/
def closeOf (precedence : Byte) (laptop : BitVec 3) (tag count check : Byte) : Frame :=
  { precedence := precedence, kind := kindByte 4 laptop.toNat 1, body := [tag, count, check] }

/-- A part's DEAL frame. -/
def dealOf (precedence : Byte) (laptop : BitVec 3) (identity : BitVec 16) (word tag count : Byte) : Frame :=
  { precedence := precedence, kind := kindByte 2 laptop.toNat 1, body := bytes16 identity ++ [word, tag, count] }

/-- A transmit queue without the station's own LETTER and CLOSE entries (R141, R164). -/
def withoutRoundFrames (q : List TxEntry) : List TxEntry := q.filter (fun e => e.kind != .letter && e.kind != .close)

/-! ## Ranges of counts and codes -/

/-- The counts stay in their ranges (R45, R44, R72, R112, R124, R134, R137, R152). A CLEAR link's good-frame count is 0, and
a TROUBLED link's is at most 3, since the fourth good frame clears it (R139). -/
abbrev State.countsInRange (s : State) : Prop :=
  s.round.hints ≤ 3 ∧ s.round.misses ≤ 2 ∧ s.round.assists ≤ 255 ∧ s.round.lastTag < 16 ∧
  s.underruns ≤ 255 ∧ s.mixer.clips ≤ 255 ∧ s.link.badRun ≤ 15 ∧ s.link.goodCount ≤ 3 ∧ s.link.clashHold ≤ 3 ∧
  (s.link.state = .clear → s.link.goodCount = 0)

/-- The speaker's sample lies in −2048..2047 (R123). -/
abbrev State.outputInRange (s : State) : Prop := -2048 ≤ s.mixer.output ∧ s.mixer.output ≤ 2047

/-- The setup values lie in their ranges (Table 0-4, R173). -/
abbrev State.setupInRange (s : State) : Prop :=
  1 ≤ s.setup.closeLimit ∧ s.setup.closeLimit ≤ 4 ∧ s.setup.ownPitch ≤ 7 ∧ s.setup.gainA ≤ 16 ∧ s.setup.gainB ≤ 16 ∧
  s.setup.volume ≤ 8 ∧ 4 ≤ s.setup.threshold ∧ s.setup.threshold ≤ 15

/-- The confusable-pair table holds at most 12 pairs of two different letter codes, none twice in either order (R22). -/
abbrev State.pairsFormed (s : State) : Prop :=
  s.judge.pairs.length ≤ 12 ∧
  (∀ p ∈ s.judge.pairs, 1 ≤ p.1 ∧ p.1 ≤ 26 ∧ 1 ≤ p.2 ∧ p.2 ≤ 26 ∧ p.1 ≠ p.2) ∧
  s.judge.pairs.Pairwise (fun p q => p ≠ q ∧ p ≠ (q.2, q.1))

/-- The four exclusion windows keep their bounds (R13). -/
abbrev State.windowsInRange (s : State) : Prop :=
  s.windows.length = 4 ∧ ∀ w ∈ s.windows, w.low ≤ 64 ∧ w.high ≤ 64

/-- The 64 progress entries keep their ranges (01 section 1.5). -/
abbrev State.progressInRange (s : State) : Prop :=
  s.progress.length = 64 ∧ ∀ e ∈ s.progress, e.box ≤ 4 ∧ e.rest ≤ 255

/-! ## Capacities -/

/-- The collections keep their capacities (R54, R103, R115, R183). -/
abbrev State.withinCapacity (s : State) : Prop :=
  s.scanner.queue.length ≤ 8 ∧ s.reports.length ≤ 16 ∧
  s.voiceA.queue.length ≤ 6 ∧ s.voiceA.stack.length ≤ 2 ∧ s.voiceB.queue.length ≤ 6 ∧ s.voiceB.stack.length ≤ 2

/-- The scanner holds 64 keys with run counts 0..2, and the Key Queue key codes (R50, R54). -/
abbrev State.scannerFormed (s : State) : Prop :=
  s.scanner.keys.length = 64 ∧ (∀ k ∈ s.scanner.keys, k.run ≤ 2) ∧ ∀ c ∈ s.scanner.queue, c < 64

/-- The transmit queue holds at most three LETTERs, one CLOSE, one DEAL and one BEAT (R140). -/
abbrev State.transmitLimited (s : State) : Prop :=
  s.link.countKind .letter ≤ 3 ∧ s.link.countKind .close ≤ 1 ∧ s.link.countKind .deal ≤ 1 ∧ s.link.countKind .beat ≤ 1

/-- The Roster has eight places; no entry's age reaches 3 and no tally passes 255 (R148, R150). -/
def State.rosterFormed (s : State) : Prop :=
  s.roster.length = 8 ∧
  ∀ e ∈ s.roster, ∀ x, e = some x → x.age ≤ 2 ∧ x.placed ≤ 255 ∧ x.onLetters ≤ 255 ∧ x.dealt ≤ 255

/-- The Roster never holds an entry for the station's own laptop number (R148). -/
abbrev State.noOwnEntry (s : State) : Prop := rosterAt s.roster s.laptop.toNat = none

/-! ## Voices and Memory Port -/

/-- A QUIET voice has an empty queue, an empty resume stack and an empty fetch buffer, and renders silence (R103). -/
abbrev Voice.quietIsEmpty (x : Voice) : Prop :=
  x.current = none → x.queue = [] ∧ x.stack = [] ∧ x.buffer = [] ∧ x.rendering = .silence

/-- Both voices are empty when QUIET (R103). -/
abbrev State.quietVoicesEmpty (s : State) : Prop := s.voiceA.quietIsEmpty ∧ s.voiceB.quietIsEmpty

/-- The contexts of a resume stack stand in priority order, and the top is never above the current utterance (R115). -/
abbrev Voice.stackOrdered (x : Voice) : Prop :=
  ((x.current.toList ++ x.stack).map (fun c => c.entry.priority)).Pairwise (fun p q => q ≤ p)

/-- Both resume stacks are in order (R115). -/
abbrev State.stacksOrdered (s : State) : Prop := s.voiceA.stackOrdered ∧ s.voiceB.stackOrdered

/-- The marks that a voice's utterances carry. -/
def Voice.marks (x : Voice) : List Nat :=
  ((x.current.toList ++ x.stack).map (·.entry) ++ x.queue).filterMap (·.markNo)

/-- The number of the next mark is above every mark that a voice or the round holds (R67, log 15). -/
abbrev State.marksNumbered (s : State) : Prop :=
  ∀ n ∈ s.round.marked.toList ++ s.voiceA.marks ++ s.voiceB.marks, n < s.round.marks

/-- A voice is QUIET, holds nothing and has no transfer of its own at the port, so that an entry offered to it starts and its
first transfer is asked for at once (R109). -/
abbrev State.voiceFree (s : State) (v : VoiceId) : Prop :=
  (s.voice v).current = none ∧ (s.voice v).queue = [] ∧ (s.voice v).stack = [] ∧ s.hasTransfer (.voice v) = false

/-- A voice that has just started an entry, with the given entries behind it (R109). -/
def State.speaking (s : State) (v : VoiceId) (e : Entry) (behind : List Entry) : Voice where
  current := some (s.startContext v e)
  queue := behind
  stack := []
  buffer := []
  rendering := .silence

/-- A speech entry of the part's own making: the own pitch and no notify tag; a marked one bears the next mark's number
(R102, log 15). -/
def State.remark (s : State) (source : Source) (priority phrase : Nat) (mark : Bool) : Entry where
  source := source
  priority := priority
  start := .phrase phrase
  pitch := s.setup.ownPitch
  tag := 0
  markNo := if mark then some s.round.marks else none

/-- The port once a requester has asked for a transfer and the arbiter has granted what it can (R98). -/
def State.portAsked (s : State) (r : Requester) (kind : TransferKind) : Port := (s.ask r kind).grant.port

/-- SPLIT mode, voice A free, and nothing at the port left to grant: what the part says for its own child is then heard at
once on voice A (R106, R109). -/
abbrev State.freeToSpeak (s : State) : Prop := s.setup.voiceMode = .split ∧ s.voiceFree .A ∧ s.portSettled

/-- The state once a free voice A has been given a group of phrases: it has started the first, and the others wait behind it
(R105, R106, R109). -/
def State.saying (s : State) (source : Source) (priority first : Nat) (more : List Nat) : State :=
  { s with
    voiceA := s.speaking .A (s.remark source priority first false) (more.map (fun p => s.remark source priority p false))
    port := s.portAsked (.voice .A) (.phraseDirectory first) }

/-- The state once a free voice B has started the echo of a peer's letter at the sender's laptop number (R40, R106, R109). -/
def State.echoing (s : State) (laptop phrase : Nat) : State :=
  { s with
    voiceB := s.speaking .B { s.remark .peer 1 phrase false with pitch := laptop } []
    port := s.portAsked (.voice .B) (.phraseDirectory phrase) }

/-- A key of code k waits at the head of the Key Queue and the part is neither dozing nor settling (R55). -/
abbrev State.keyWaits (s : State) (k : Nat) : Prop := s.power = .awake ∧ s.scanner.queue.head? = some k

/-- The state once the head code has left the Key Queue; in SOLO_OPEN the round timer runs anew from 60 s (R55, R69). -/
def State.keyTaken (s : State) : State :=
  { s with
    scanner := { s.scanner with queue := s.scanner.queue.tail }
    round := if s.round.state = .soloOpen then { s.round with soloTimer := .running 60 } else s.round }

/-- The command that takes a key of code k when the Round Controller uses it (Table 3-1). -/
def keyRow (k : Nat) : Instr :=
  if k < 26 then .letterKey else if k = 26 then .eraseKey else if k = 27 then .doneKey else if k = 28 then .repeatKey
  else if k = 29 then .hintKey else .otherKey

/-- The transfers of the port: in flight, then waiting. -/
def Port.all (p : Port) : List Transfer := p.inFlight.toList ++ p.waiting

/-- Each requester has at most one transfer waiting or in flight (R98). -/
abbrev State.oneRequestEach (s : State) : Prop :=
  s.port.all.Pairwise (fun t u => t.requester ≠ u.requester)

/-- The waiting requests stand in grant order (R98). -/
abbrev State.waitingInOrder (s : State) : Prop := s.port.waiting.Pairwise (fun t u => t.order ≤ u.order)

/-! ## The Attempt Record and the Judge -/

/-- Whether the Round Controller is in a state in which the station holds a target (R21, R38). -/
def RoundState.holdsTarget : RoundState → Bool
  | .soloOpening | .soloOpen | .soloReview | .circleOpening | .circlePlayer => true
  | .idle | .circleDealing | .circleSpectator | .circleLost => false

/-- The row stack (top first) built by pushing letters one after another on R0 of a target (R24 to R26). -/
def builtRows (table : List (Nat × Nat)) (t letters : List Nat) : List Row :=
  letters.foldl (fun rows x => pushedRow table t rows x :: rows) [rowZero t.length]

/-- The Attempt Record keeps its bounds: at most 20 letters, at most 3 pending, and pending only for a player (R20). -/
abbrev State.attemptBounded (s : State) : Prop :=
  s.attempt.count ≤ 20 ∧ s.attempt.pending.length ≤ 3 ∧ (s.round.state.player = false → s.attempt.pending = [])

/-- The row stack is the one that the landed and then the pending letters build on the target, and it is empty without a
target; a target is held in the solo states and by a player, and in no other state (R21, R24). -/
abbrev State.rowsFollowAttempt (s : State) : Prop :=
  (s.attempt.target.isSome = s.round.state.holdsTarget) ∧
  (s.attempt.target = none → s.judge.rows = []) ∧
  (s.attempt.target.isSome = true → s.judge.rows = builtRows s.judge.pairs s.targetLetters s.attempt.letters)

/-! ## The Round Controller -/

/-- The round facts on a return to IDLE: counts and next repeat keep their values (R64, R79, R153). -/
def Round.closed (r : Round) : Round :=
  { r with
    state := .idle, kind := none, word := none, tag := none, soloTimer := .stopped, circleTimer := .stopped,
    marked := none, deal := none }

/-- The Attempt Record with no target and no letters (R21). -/
def Attempt.cleared : Attempt where
  target := none
  landed := []
  pending := []

/-- The round facts follow the state: the round timer runs only in SOLO_OPEN, the circle timer only in an open circle round,
the deal facts are held only in CIRCLE_DEALING, and the round kind is that of the state (R64, R69, R153). -/
abbrev State.factsFollowState (s : State) : Prop :=
  (s.round.soloTimer ≠ .stopped ↔ s.round.state = .soloOpen) ∧
  (s.round.circleTimer ≠ .stopped ↔ s.round.state.circleOpen = true) ∧
  (s.round.deal.isSome = true ↔ s.round.state = .circleDealing) ∧
  (s.round.kind = some .circle ↔ s.round.state.circleOpen = true) ∧
  (s.round.kind = some .solo ↔
    s.round.state = .soloOpening ∨ s.round.state = .soloOpen ∨ s.round.state = .soloReview)

/-! ## The Word Table -/

/-- The Word Table's contents follow its state: EMPTY and LOADING have list identity 0, EMPTY has no records, READY has
some; there are never more than 64; a load is in flight exactly in LOADING (R2, R3, R6). -/
abbrev State.tableFollowsState (s : State) : Prop :=
  s.words.records.length ≤ 64 ∧
  (s.words.state = .loading ↔ s.loader.isSome = true) ∧
  (s.words.state = .empty → s.words.records = [] ∧ s.words.identity = 0) ∧
  (s.words.state = .loading → s.words.identity = 0) ∧
  (s.words.state = .ready → s.words.records ≠ [])

/-- A load awaits its header with no record taken, and afterwards has more records to take, at most 64 in all (R4, R5). -/
def State.loadFollowsPhase (s : State) : Prop :=
  ∀ l : Load, s.loader = some l →
    (l.phase = .header → s.words.records = []) ∧
    (l.phase ≠ .header → s.words.records.length < l.toTake ∧ l.toTake ≤ 64)

/-- Every cartridge transfer at the port is the List Loader's, and one whose bytes are not to be thrown away is the one that
the phase of the load in flight asks for (R4, R5, R7). -/
def State.loaderTransferFits (s : State) : Prop :=
  ∀ t ∈ s.port.all, t.kind.select = some .cartridge →
    t.requester = .loader ∧ (t.discarded = false → s.loader.map Load.asks = some t.kind)

/-- No list loads while the station holds a target (R3, R8). -/
abbrev State.loadsOutsideRounds (s : State) : Prop := s.words.state = .loading → s.round.state.holdsTarget = false

/-! ## Doze -/

/-- The receiver is OFF exactly while the part dozes or settles; then the Round Controller is IDLE, no list loads, both
voices are QUIET, the transmit queue and the answer slot are empty (R127, R145, R146, R182). -/
abbrev State.dozeIsQuiet (s : State) : Prop :=
  (s.link.receiver = .off ↔ s.power ≠ .awake) ∧
  (s.power ≠ .awake →
    s.round.state = .idle ∧ s.words.state ≠ .loading ∧ s.voiceA.current = none ∧ s.voiceB.current = none ∧
    s.link.queue = [] ∧ s.answer = none ∧ s.link.inFlight = none)

/-- A station going to doze is in IDLE and loads no list (R145, R182). -/
abbrev State.goesToDozeIdle (s : State) : Prop :=
  s.goingToDoze = true → s.round.state = .idle ∧ s.words.state ≠ .loading

end Sys2Proof.Machine
end

