-- ==== Sys2Proof/Certificates/Slice0/Obligations.lean ====
section
/-! DEFINITION. The statements for the provers. Each docstring cites the rules it formalises; what is the model's own choice is
said there with its log entry. -/

open Sys2Proof Sys2Proof.Machine

/-! ## The step, RESET and the requests -/

/-- The step takes the command at the front of the queue and executes it with the queue's rest; with an empty queue the part
idles (the model's choice, log 1). -/
def Obligations.StepTakesFrontCommand : Prop :=
  (∀ (c : Instr) (rest : List Instr) (s : State), s.pending = c :: rest → step s = exec c (s.setPending rest)) ∧
  (∀ s : State, s.pending = [] → step s = .next s)

/-- Every command answers a next state in every state, and leaves the queue of waiting commands as it is: the manual gives no
fault and no stop, and the queue is the model's (log 1, log 3). -/
def Obligations.EveryCommandCompletes : Prop :=
  ∀ (c : Instr) (s : State), ∃ t : State, exec c s = .next t ∧ t.pending = s.pending

/-- RESET puts every block in its values after reset and reads the laptop number, whatever the state was (01 1.8, 02 2.15,
R63, R64, R93, R94, R147, R153, 06 6.10, R148, R174, R184). That the letter table read's first directory fetch is in flight
at once (log 12) and that the waiting commands stay (log 11) are the model's readings. `marks` is the model's own number of
the next mark (log 15). -/
def Obligations.ResetGivesResetValues : Prop :=
  ∀ (l : BitVec 3) (s : State), ∃ t : State, exec (.reset l) s = .next t ∧
    t.laptop = l ∧ t.power = .awake ∧
    t.scanner = { keys := List.replicate 64 { state := .up, run := 0 }, queue := [] } ∧
    t.words = { state := .empty, identity := 0, records := [] } ∧ t.loader = none ∧
    t.progress = List.replicate 64 { box := 0, rest := 0 } ∧ t.previous = none ∧
    t.windows = List.replicate 4 { low := 0, high := 0 } ∧
    t.setup = { style := .coached, closeLimit := 2, letterVoice := .name, voiceMode := .split, ownPitch := 2,
                rate := .normal, gainA := 16, gainB := 16, volume := 6, duck := true, circle := true, beat := true,
                threshold := 6 } ∧
    t.staged = [[(2, 4), (16, 17), (13, 14), (3, 11)], [(19, 26), (21, 22)], [], []] ∧
    t.attempt = { target := none, landed := [], pending := [] } ∧
    t.judge = { rows := [], pairs := [(2, 4), (16, 17), (13, 14), (3, 11), (19, 26), (21, 22)] } ∧
    t.round = { state := .idle, kind := none, word := none, tag := none, soloTimer := .stopped, circleTimer := .stopped,
                hints := 0, nextRepeat := .word, marked := none, marks := 0, assists := 0, misses := 0, deal := none,
                lastTag := 0 } ∧
    t.store = { slots := List.replicate 24 none, letters := List.replicate 52 .unread,
                reader := some { phrase := 1, address := none } } ∧
    t.voiceA = { current := none, queue := [], stack := [], buffer := [], rendering := .silence } ∧
    t.voiceB = { current := none, queue := [], stack := [], buffer := [], rendering := .silence } ∧
    t.underruns = 0 ∧ t.mixer.clips = 0 ∧
    t.port = { inFlight := some { requester := .letterTable, kind := .phraseDirectory 1, discarded := false },
               waiting := [] } ∧
    t.link = { receiver := .gapWait 0, state := .clear, badRun := 0, goodCount := 0, clashHold := 0, queue := [],
               inFlight := none } ∧
    t.roster = List.replicate 8 none ∧ t.answer = none ∧
    t.flags = { keyOverrun := false, reportOverflow := false, requestOverrun := false, numberClash := false,
                linkTrouble := false, clipped := false } ∧
    t.reports = [] ∧ t.pending = s.pending

/-- A request that finds the answer slot full is not executed: it sets REQUEST_OVERRUN, and its frame counts as any good
frame does: the run of bad frames becomes 0, and on a TROUBLED link the good-frame count rises, the fourth making the link
CLEAR with its LINK record, which a full Report Queue drops (R172, R134, R139, R183). Nothing else changes. That a frame of
the station's own still in flight goes on to its end, the receiver with it, is the model's reading (R141, log 6). That the
operands are the raw argument bytes is the model's form of the rows (log 5). -/
def Obligations.RequestFindsSlotFull : Prop :=
  ∀ (c : Instr) (s : State) (r : Reply), isRequest c = true → s.hearing = true → s.answer = some r → s.portSettled →
    let after : Receiver := if s.link.inFlight.isSome then s.link.receiver else .gapWait 0
    (s.link.state = .clear → exec c s = .next { s with
      flags := { s.flags with requestOverrun := true }
      link := { s.link with receiver := after, badRun := 0 } }) ∧
    (s.link.state = .troubled → s.link.goodCount < 3 → exec c s = .next { s with
      flags := { s.flags with requestOverrun := true }
      link := { s.link with receiver := after, badRun := 0, goodCount := s.link.goodCount + 1 } }) ∧
    (s.link.state = .troubled → s.link.goodCount = 3 → s.reports.length < 16 → exec c s = .next { s with
      flags := { s.flags with requestOverrun := true }
      reports := s.reports ++ [.link .clear]
      link := { s.link with receiver := after, badRun := 0, goodCount := 0, state := .clear } }) ∧
    (s.link.state = .troubled → s.link.goodCount = 3 → 16 ≤ s.reports.length → exec c s = .next { s with
      flags := { s.flags with requestOverrun := true, reportOverflow := true }
      link := { s.link with receiver := after, badRun := 0, goodCount := 0, state := .clear } })

/-- STATUS is answered DONE, an unknown code UNKNOWN, DOZE by its four checks; none changes anything but the answer slot
(R172, R178, R182). The state `s.heard` is the one in which the good frame has been counted (R134). PROGRESS reads a word's
box and rest, or is BUSY, NO_LIST or REFUSED; ROSTER reads one entry in increasing laptop order, or is REFUSED with the
number of entries; reading changes nothing but the answer slot (R12, R179). EXCLUDE replaces the bounds of one window, index
and bounds clamped, in every state, and leaves the other windows and all else as they are; DONE, adjusted when an argument
was clamped or their number did not fit (R13, R172). That a wrong number of bytes sets the adjusted flag of every reply but
UNKNOWN, and a clamp only that of a reply whose rule read the value, is the model's reading (log 20). -/
def Obligations.ReadingRequestsAnswered : Prop :=
  (∀ (s : State) (args : List Byte), s.takesRequest →
    exec (.status args) s = .next { s.heard with
      answer := some { code := 9, outcome := .done, adjusted := args.length != 0, data := [] } } ∧
    exec (.doze args) s = .next { s.heard with
      answer := some {
        code := 14
        outcome :=
          if s.round.state = .idle ∧ s.words.state ≠ .loading ∧ s.voiceA.current = none ∧ s.voiceB.current = none ∧
            s.link.queue = [] then .done else .busy
        adjusted := args.length != 0, data := [] } } ∧
    (∀ code : Byte, code.toNat = 0 ∨ 14 < code.toNat →
      exec (.unknownRequest code args) s = .next { s.heard with
        answer := some { code := code.toNat, outcome := .unknown, adjusted := false, data := [] } })) ∧
  (∀ (s : State) (args : List Byte), s.takesRequest →
    let n := byteAt args 0
    let entries := (List.range s.roster.length).filterMap (fun k => (rosterAt s.roster k).map (fun e => (k, e)))
    exec (.progress args) s = .next { s.heard with
      answer := some {
        code := 10, adjusted := args.length != 1
        outcome := if s.words.state = .loading then .busy else if s.words.state = .empty then .noList
          else if s.words.records.length ≤ n then .refused else .done
        data := if s.words.state = .ready ∧ n < s.words.records.length then
          [Byte.of (s.progressAt n).box, Byte.of (s.progressAt n).rest] else [] } } ∧
    (∀ x : Nat × RosterEntry, entries[n]? = some x →
      exec (.roster args) s = .next { s.heard with
        answer := some {
          code := 12, outcome := .done, adjusted := args.length != 1
          data := [Byte.of entries.length, Byte.of x.1, Byte.of (if x.2.identity.isSome then 1 else 0)] ++
            bytes16 (x.2.identity.getD 0) ++
            [Byte.of x.2.age, Byte.of x.2.placed, Byte.of x.2.onLetters, Byte.of x.2.dealt] } }) ∧
    (entries.length ≤ n →
      exec (.roster args) s = .next { s.heard with
        answer := some { code := 12, outcome := .refused, adjusted := args.length != 1, data := [Byte.of entries.length] } })) ∧
  (∀ (s : State) (args : List Byte), s.takesRequest → s.windows.length = 4 →
    ∃ t : State, exec (.exclude args) s = .next t ∧
      t = { s.heard with
        windows := t.windows
        answer := some {
          code := 11, outcome := .done, data := []
          adjusted := decide (args.length ≠ 3 ∨ 3 < byteAt args 0 ∨ 64 < byteAt args 1 ∨ 64 < byteAt args 2) } } ∧
      t.windows.length = 4 ∧
      t.windows[min 3 (byteAt args 0)]? = some { low := min 64 (byteAt args 1), high := min 64 (byteAt args 2) } ∧
      (∀ i : Nat, i ≠ min 3 (byteAt args 0) → t.windows[i]? = s.windows[i]?))

/-- SETUP part 0, taken in IDLE or CIRCLE_DEALING while no list loads, replaces every setup value, each clamped to its range,
and the confusable-pair table by the one that the staged pairs form (R173, R22). SETUP with a part 1..4 replaces that part of
the staged pairs, codes as sent, and nothing else; a SETUP of any part is answered BUSY, without effect, in any other Round
Controller state or while a list loads (R173, R174). The adjusted flag of a BUSY reply is left open here (log 20). -/
def Obligations.SetupReplacesValues : Prop :=
  (∀ (s : State) (args : List Byte), s.takesRequest → (s.round.state = .idle ∨ s.round.state = .circleDealing) →
    s.words.state ≠ .loading → byteAt args 0 = 0 →
    ∃ adjusted, exec (.setup args) s = .next { s.heard with
      setup := {
        style := if byteAt args 1 = 0 then .free else if byteAt args 1 = 1 then .coached else .guided
        closeLimit := max 1 (min 4 (byteAt args 2))
        ownPitch := min 7 (byteAt args 3)
        rate := if byteAt args 4 = 0 then .quick else if byteAt args 4 = 1 then .normal else .slow
        gainA := min 16 (byteAt args 5)
        gainB := min 16 (byteAt args 6)
        volume := min 8 (byteAt args 7)
        threshold := max 4 (min 15 (byteAt args 8))
        letterVoice := if (byteAt args 9).testBit 0 then .sound else .name
        voiceMode := if (byteAt args 9).testBit 1 then .shared else .split
        duck := (byteAt args 9).testBit 2
        circle := (byteAt args 9).testBit 3
        beat := (byteAt args 9).testBit 4 }
      judge := { s.judge with pairs := (formPairs s.staged.flatten).1 }
      answer := some { code := 1, outcome := .done, adjusted := adjusted, data := [] } } ∧
    (adjusted = true ↔
      args.length ≠ 10 ∨ 2 < byteAt args 1 ∨ byteAt args 2 < 1 ∨ 4 < byteAt args 2 ∨ 7 < byteAt args 3 ∨
      2 < byteAt args 4 ∨ 16 < byteAt args 5 ∨ 16 < byteAt args 6 ∨ 8 < byteAt args 7 ∨ byteAt args 8 < 4 ∨
      15 < byteAt args 8 ∨ (formPairs s.staged.flatten).2 = true)) ∧
  (∀ (s : State) (args : List Byte), s.takesRequest →
    ((s.round.state = .idle ∨ s.round.state = .circleDealing) → s.words.state ≠ .loading → 1 ≤ byteAt args 0 →
      exec (.setupStage args) s = .next { s.heard with
        staged := s.staged.set (min 4 (byteAt args 0) - 1) (pairsOf (args.tail.take 8))
        answer := some {
          code := 1, outcome := .done
          adjusted := decide ((args.length - 1) % 2 = 1 ∨ 8 < args.length - 1 ∨ 4 < byteAt args 0), data := [] } }) ∧
    ((s.round.state ≠ .idle ∧ s.round.state ≠ .circleDealing) ∨ s.words.state = .loading →
      ∃ adjusted : Bool,
        let r : Reply := { code := 1, outcome := .busy, adjusted := adjusted, data := [] }
        exec (.setup args) s = .next { s.heard with answer := some r } ∧
        exec (.setupStage args) s = .next { s.heard with answer := some r }))

/-- The table formed from offered pairs holds at most 12 pairs of different letters, none twice in either order; each offered
pair with two different letters after clamping is in it unless it is full; it is adjusted unless every pair joined as it was
offered; and the substitution cost is 0, 1 or 2 and symmetric (R22). -/
def Obligations.PairTableFormed : Prop :=
  (∀ offered : List (Nat × Nat),
    (formPairs offered).1.length ≤ 12 ∧
    (∀ p ∈ (formPairs offered).1, ∃ q ∈ offered,
      p = (clamp 1 26 q.1, clamp 1 26 q.2) ∧ 1 ≤ p.1 ∧ p.1 ≤ 26 ∧ 1 ≤ p.2 ∧ p.2 ≤ 26 ∧ p.1 ≠ p.2) ∧
    (formPairs offered).1.Pairwise (fun p q => p ≠ q ∧ p ≠ (q.2, q.1)) ∧
    (∀ q ∈ offered, clamp 1 26 q.1 ≠ clamp 1 26 q.2 → (formPairs offered).1.length < 12 →
      pairIn (formPairs offered).1 (clamp 1 26 q.1) (clamp 1 26 q.2) = true) ∧
    ((formPairs offered).2 = false ↔ (formPairs offered).1 = offered)) ∧
  (∀ (table : List (Nat × Nat)) (x y : Nat),
    sub table x y = (if x = y then 0 else if (x, y) ∈ table ∨ (y, x) ∈ table then 1 else 2) ∧
    sub table x y = sub table y x)

/-- START SOLO on a named word that is there, usable and not excluded opens the round: facts, target, R0, SOLO_OPENING, the
prompt "spell" and the marked say-phrase as one group at priority 2, the reply STARTED with the word (R65, R66, R67). Here
the voice is voice A of SPLIT mode, free to start. The adjusted flag from the number of bytes is the model's reading (log
20). The marked utterance is referred to by its mark's number (log 15). -/
def Obligations.StartSoloOpensRound : Prop :=
  ∀ (s : State) (args : List Byte) (r : WordRecord), s.takesRequest → s.round.state = .idle → s.words.state = .ready →
    byteAt args 0 ≠ 255 → s.wordAt (byteAt args 0) = some r → r.usable = true → s.excluded (byteAt args 0) = false →
    s.setup.voiceMode = .split → s.voiceFree .A →
    exec (.startSolo args) s = .next { s.heard with
      round := { s.round with
        state := .soloOpening, kind := some .solo, word := some (byteAt args 0), tag := none, soloTimer := .stopped,
        circleTimer := .stopped, hints := 0, nextRepeat := .word, marked := some s.round.marks,
        marks := s.round.marks + 1, assists := 0, misses := 0, deal := none }
      attempt := { target := some (byteAt args 0), landed := [], pending := [] }
      judge := { s.judge with rows := [rowZero r.letters.length] }
      voiceA := s.speaking .A (s.remark .round 2 53 false) [s.remark .round 2 r.sayPhrase true]
      port := s.portAsked (.voice .A) (.phraseDirectory 53)
      answer := some { code := 3, outcome := .started, adjusted := args.length != 1,
                       data := [Byte.of (byteAt args 0)] } }

/-- START SOLO and START CIRCLE check state, list, setting, link and word in the tables' order, and a request answered at any
line but the last changes nothing but the answer slot (R65, R154). The adjusted flag of replies other than DONE and STARTED
is the model's reading (log 20). -/
def Obligations.StartChecksInOrder : Prop :=
  ∀ (s : State) (args : List Byte) (o : ReplyOutcome), s.takesRequest →
    let w := byteAt args 0
    let word : Option ReplyOutcome :=
      if w ≠ 255 ∧ s.words.records.length ≤ w then some .refused
      else if w ≠ 255 ∧ s.usable w = false then some .refused
      else if w ≠ 255 ∧ s.excluded w = true then some .refused
      else if w = 255 ∧ s.choice = none then some .noWord
      else none
    let list : Option ReplyOutcome → Option ReplyOutcome := fun rest =>
      if s.round.state ≠ .idle then some .busy
      else if s.words.state = .loading then some .busy
      else if s.words.state = .empty then some .noList
      else rest
    (list word = some o →
      exec (.startSolo args) s = .next { s.heard with
        answer := some { code := 3, outcome := o, adjusted := args.length != 1, data := [] } }) ∧
    (list (if s.setup.circle = false then some .busy else if s.heard.link.state = .troubled then some .busy else word) =
        some o →
      exec (.startCircle args) s = .next { s.heard with
        answer := some { code := 4, outcome := o, adjusted := args.length != 1, data := [] } })

/-- The choice rule picks an eligible word, sets a previous choice aside when another word is eligible, and takes the lowest
box, then the greatest rest, then the lowest number; the picked word's rest becomes 0, every other eligible word's rises by 1
to at most 255, and the previous choice becomes the picked word; with no eligible word it picks none (R16, R18). START SOLO
with word 255 makes that choice. -/
def Obligations.ChoicePicksLeastLearned : Prop :=
  (∀ (s : State) (p : Nat), s.choice = some p →
    s.eligible p = true ∧
    (∀ q, s.previous = some q → (∃ w, w ≠ q ∧ s.eligible w = true) → p ≠ q) ∧
    (∀ w, s.eligible w = true → w ≠ p → (s.previous = some w → ∀ v, s.eligible v = true → v = w) →
      (s.progressAt p).box < (s.progressAt w).box ∨
      ((s.progressAt p).box = (s.progressAt w).box ∧
        ((s.progressAt w).rest < (s.progressAt p).rest ∨
          ((s.progressAt w).rest = (s.progressAt p).rest ∧ p < w))))) ∧
  (∀ s : State, s.choice = none ↔ ∀ w, s.eligible w = false) ∧
  (∀ (s : State) (args : List Byte) (p : Nat), s.takesRequest → s.round.state = .idle → s.words.state = .ready →
    byteAt args 0 = 255 → s.choice = some p →
    ∃ t : State, exec (.startSolo args) s = .next t ∧ t.previous = some p ∧ t.progress.length = s.progress.length ∧
      t.answer = some { code := 3, outcome := .started, adjusted := args.length != 1, data := [Byte.of p] } ∧
      ∀ (w : Nat) (e : ProgressEntry), s.progress[w]? = some e → t.progress[w]? = some {
        box := e.box
        rest := if w = p then 0 else if s.eligible w then min 255 (e.rest + 1) else e.rest })

/-- START CIRCLE on a named word that may be dealt queues a DEAL with the list identity, the word, the tag (last tag + 1) mod
16 and the letter count, holds the deal facts and enters CIRCLE_DEALING; no speech, no timer (R152, R154, R155). With word
255 it deals the word that the choice rule picks, and the choice updates the rests and the previous choice (R16, R19). -/
def Obligations.StartCircleQueuesDeal : Prop :=
  (∀ (s : State) (args : List Byte) (r : WordRecord), s.takesRequest → s.round.state = .idle → s.words.state = .ready →
    s.setup.circle = true → s.heard.link.state = .clear → s.link.countKind .deal = 0 →
    byteAt args 0 ≠ 255 → s.wordAt (byteAt args 0) = some r → r.usable = true → s.excluded (byteAt args 0) = false →
    exec (.startCircle args) s = .next { s.heard with
      link := { s.heard.link with
        queue := s.heard.link.queue ++ [{
          kind := .deal, sending := false
          body := bytes16 s.words.identity ++
            [Byte.of (byteAt args 0), Byte.of ((s.round.lastTag + 1) % 16), Byte.of r.letters.length] }] }
      round := { s.round with
        state := .circleDealing, deal := some { tag := (s.round.lastTag + 1) % 16, word := byteAt args 0 } }
      answer := some { code := 4, outcome := .started, adjusted := args.length != 1,
                       data := [Byte.of (byteAt args 0)] } }) ∧
  (∀ (s : State) (args : List Byte) (w : Nat) (r : WordRecord), s.takesRequest → s.round.state = .idle →
    s.words.state = .ready → s.setup.circle = true → s.heard.link.state = .clear → s.link.countKind .deal = 0 →
    byteAt args 0 = 255 → s.choice = some w → s.wordAt w = some r →
    ∃ t : State, exec (.startCircle args) s = .next t ∧
      t = { s.heard with
        progress := t.progress, previous := some w
        link := { s.heard.link with
          queue := s.heard.link.queue ++ [{
            kind := .deal, sending := false
            body := bytes16 s.words.identity ++
              [Byte.of w, Byte.of ((s.round.lastTag + 1) % 16), Byte.of r.letters.length] }] }
        round := { s.round with
          state := .circleDealing, deal := some { tag := (s.round.lastTag + 1) % 16, word := w } }
        answer := some { code := 4, outcome := .started, adjusted := args.length != 1, data := [Byte.of w] } } ∧
      t.progress.length = s.progress.length ∧
      ∀ (n : Nat) (e : ProgressEntry), s.progress[n]? = some e → t.progress[n]? = some {
        box := e.box
        rest := if n = w then 0 else if s.eligible n then min 255 (e.rest + 1) else e.rest })

/-- END ROUND returns the station to IDLE: nothing in IDLE; an ABANDONED RESULT record from SOLO_OPENING and SOLO_OPEN, none
elsewhere; the DEAL entry removed from a deal; own LETTER and CLOSE entries and pending letters removed in a circle round; a
frame in flight goes on to its end (R80, R141, R170, R180). The counts in IDLE are the model's reading (log 23, log 33). -/
def Obligations.EndRoundReturnsToIdle : Prop :=
  ∀ (s : State) (args : List Byte), s.takesRequest →
    let reply : Option Reply := some { code := 5, outcome := .done, adjusted := args.length != 0, data := [] }
    (s.round.state = .idle → exec (.endRound args) s = .next { s.heard with answer := reply }) ∧
    (s.round.state = .soloOpening ∨ s.round.state = .soloOpen →
      let u := s.heard.post (.result .solo (s.round.word.getD 0) .abandoned 0 s.attempt.landed.length s.round.assists)
      exec (.endRound args) s = .next { u with
        round := s.round.closed, attempt := Attempt.cleared, judge := { s.judge with rows := [] }, answer := reply }) ∧
    (s.round.state = .soloReview →
      exec (.endRound args) s = .next { s.heard with
        round := s.round.closed, attempt := Attempt.cleared, judge := { s.judge with rows := [] }, answer := reply }) ∧
    (s.round.state = .circleDealing →
      exec (.endRound args) s = .next { s.heard with
        link := { s.heard.link with
          inFlight := s.link.inFlight, queue := s.heard.link.queue.filter (fun e => e.kind != .deal) }
        round := s.round.closed, attempt := Attempt.cleared, judge := { s.judge with rows := [] }, answer := reply }) ∧
    (s.round.state.circleOpen = true →
      exec (.endRound args) s = .next { s.heard with
        link := { s.heard.link with
          inFlight := s.link.inFlight
          queue := s.heard.link.queue.filter (fun e => e.kind != .letter && e.kind != .close) }
        round := { s.round.closed with misses := if s.attempt.pending = [] then s.round.misses else 0 }
        attempt := Attempt.cleared, judge := { s.judge with rows := [] }, answer := reply })

/-- SAY offers one CONTROLLER entry with its phrase and priority clamped, the own pitch, its tag and no mark: it starts on a
free voice, joins a queue with room, or is dropped at a full queue of equal or higher priority with its SPOKEN record (R104,
R109, R175). Here the voice is voice A of SPLIT mode. SPELL composes the word's spelling in the lowest free slots and offers
it at priority 1; with no free slot it is dropped with 0 letters; it is BUSY, NO_LIST or REFUSED by its checks (R95, R96,
R176). Here the spelling joins voice A's queue in SPLIT mode, and the word has at most three letters, so that one slot holds
it. The adjusted flag of SPELL's replies is that of the number of bytes, the model's reading (R172, log 20). -/
def Obligations.SpeechRequestsOffer : Prop :=
  (∀ (s : State) (args : List Byte), s.takesRequest → s.setup.voiceMode = .split →
    let e : Entry := { source := .controller, priority := min 3 (byteAt args 2), start := .phrase (min 511 (word16At args 0)),
                       pitch := s.setup.ownPitch, tag := byteAt args 3, markNo := none }
    let reply (o : ReplyOutcome) : Option Reply := some {
      code := 6, outcome := o, data := []
      adjusted := decide (args.length ≠ 4 ∨ 511 < word16At args 0 ∨ 3 < byteAt args 2) }
    (s.voiceFree .A →
      exec (.say args) s = .next { s.heard with
        voiceA := s.speaking .A e [], port := s.portAsked (.voice .A) (.phraseDirectory (min 511 (word16At args 0)))
        answer := reply .queued }) ∧
    (s.voiceA.current ≠ none → s.voiceA.queue.length < 6 →
      exec (.say args) s = .next { s.heard with
        voiceA := { s.voiceA with queue := s.voiceA.queue ++ [e] }, answer := reply .queued }) ∧
    (s.voiceA.current ≠ none → 6 ≤ s.voiceA.queue.length → (∀ d ∈ s.voiceA.queue, e.priority ≤ d.priority) →
      let u := if byteAt args 3 = 0 then s.heard else s.heard.post (.spoken (byteAt args 3) .dropped)
      exec (.say args) s = .next { u with
        answer := reply .dropped })) ∧
  (∀ (s : State) (args : List Byte), s.takesRequest →
    let w := byteAt args 0
    let tag := byteAt args 1
    let reply (o : ReplyOutcome) (data : List Byte) : Option Reply := some {
      code := 7, outcome := o, adjusted := args.length != 2, data := data }
    (s.words.state = .loading → exec (.spell args) s = .next { s.heard with answer := reply .busy [] }) ∧
    (s.words.state = .empty → exec (.spell args) s = .next { s.heard with answer := reply .noList [] }) ∧
    (s.words.state = .ready → s.wordAt w = none →
      exec (.spell args) s = .next { s.heard with answer := reply .refused [] }) ∧
    (∀ r, s.wordAt w = some r → s.words.state = .ready → r.usable = false →
      exec (.spell args) s = .next { s.heard with answer := reply .refused [] }) ∧
    (∀ r, s.wordAt w = some r → s.words.state = .ready → r.usable = true → s.store.freeSlots = [] →
      let u := if tag = 0 then s.heard else s.heard.post (.spoken tag .dropped)
      exec (.spell args) s = .next { u with answer := reply .dropped [0] }) ∧
    (∀ r, s.wordAt w = some r → ∀ n, s.store.freeSlots.head? = some n → s.words.state = .ready → r.usable = true →
      1 ≤ r.letters.length → r.letters.length ≤ 3 → s.setup.voiceMode = .split → s.voiceA.current ≠ none →
      s.voiceA.queue.length < 6 →
      exec (.spell args) s = .next { s.heard with
        store := s.store.write n (some {
          pairs := spellingPairs (r.letters.map (fun x => s.store.letterPair (letterPhrase s.setup.letterVoice x)))
          link := 0 })
        voiceA := { s.voiceA with queue := s.voiceA.queue ++ [{
          source := .controller, priority := 1, start := .slot n, pitch := s.setup.ownPitch, tag := tag,
          markNo := none }] }
        answer := reply .queued [Byte.of r.letters.length] }))

/-- STOP makes the voice or voices it names QUIET at once, with empty queue, resume stack and fetch buffer, and withdraws
their waiting requests or marks their transfer's bytes to be thrown away (R118, R177, R100). A voice that held only its
current utterance, a phrase, ends it CUT, with a SPOKEN record when it carries a tag (R120). When it carries the mark of the
round, its end opens the round or ends the review; without a mark, or with the mark of a round already ended, it changes
nothing more (R68, R84, R121, R159). Whose mark an utterance carries is told by its number (log 15). That the round word
becomes none on the return to IDLE is the model's reading (log 23). -/
def Obligations.StopSilencesVoices : Prop :=
  ∀ (s : State) (args : List Byte), s.takesRequest →
    let reply : Option Reply := some {
      code := 8, outcome := .done, adjusted := decide (args.length ≠ 1 ∨ 2 < byteAt args 0), data := [] }
    let cut := fun (p : Port) (v : VoiceId) => ({
      inFlight := p.inFlight.map (fun t => if t.requester = .voice v then { t with discarded := true } else t)
      waiting := p.waiting.filter (fun t => t.requester != .voice v) } : Port)
    (∃ t : State, exec (.stop args) s = .next t ∧
      t.voiceA = (if byteAt args 0 = 1 then s.voiceA else Voice.quiet) ∧
      t.voiceB = (if byteAt args 0 = 0 then s.voiceB else Voice.quiet) ∧
      t.port = (if byteAt args 0 = 0 then cut s.port .A else if byteAt args 0 = 1 then cut s.port .B
                else cut (cut s.port .A) .B) ∧
      t.link = s.heard.link ∧ t.setup = s.setup ∧ t.progress = s.progress ∧ t.words = s.words ∧ t.scanner = s.scanner ∧
      t.roster = s.roster ∧ t.answer = reply) ∧
    (∀ (c : Context) (p : Nat), byteAt args 0 = 0 → s.voiceA.current = some c → s.voiceA.queue = [] →
      s.voiceA.stack = [] → c.entry.start = .phrase p →
      let u := if c.entry.tag = 0 then s.heard else s.heard.post (.spoken c.entry.tag .cut)
      let stopped : State := { u with voiceA := Voice.quiet, port := cut s.port .A, answer := reply }
      (c.entry.markNo = none ∨ c.entry.markNo ≠ s.round.marked → exec (.stop args) s = .next stopped) ∧
      (∀ n, c.entry.markNo = some n → s.round.marked = some n →
        (s.round.state = .soloOpening → exec (.stop args) s = .next { stopped with
          round := { s.round with state := .soloOpen, marked := none, soloTimer := .running 60 } }) ∧
        (s.round.state = .circleOpening → exec (.stop args) s = .next { stopped with
          round := { s.round with state := .circlePlayer, marked := none } }) ∧
        (s.round.state = .soloReview → exec (.stop args) s = .next { stopped with
          round := s.round.closed, attempt := Attempt.cleared, judge := { s.judge with rows := [] } })))

/-- RESTART, taken in every state and answered DONE, returns the Round Controller to IDLE with its reset facts but for the
last tag, clears the Attempt Record and the rows, silences both voices without a record, empties the Key Queue and the
transmit queue, and keeps everything else: of the Utterance Store the slots of every spelling that a voice spoke, held on its
resume stack or had queued are free afterwards, and no others change (R181, R60, R81, R97, R118, R119). The voices' waiting
requests are withdrawn, and one in flight is thrown away (R100); a link frame in flight goes on to its end (R141, R147). That
the hint, assist and miss counts and next repeat return to their reset values, in a circle round too, is the model's reading
(R64, R81, log 31); the number of the next mark is the model's own (log 15), and a spelling's slots are those of its chain
(log 26). -/
def Obligations.RestartEndsActivity : Prop :=
  ∀ (s : State) (args : List Byte), s.takesRequest →
    ∃ t : State, exec (.restart args) s = .next t ∧
      t = { s.heard with
        round := { state := .idle, kind := none, word := none, tag := none, soloTimer := .stopped,
                   circleTimer := .stopped, hints := 0, nextRepeat := .word, marked := none, marks := s.round.marks, assists := 0,
                   misses := 0, deal := none, lastTag := s.round.lastTag }
        attempt := { target := none, landed := [], pending := [] }
        judge := { s.judge with rows := [] }
        voiceA := Voice.quiet, voiceB := Voice.quiet
        port := ((s.withdraw (.voice .A)).withdraw (.voice .B)).port
        store := { s.store with slots := t.store.slots }
        scanner := { s.scanner with queue := [] }
        link := { s.heard.link with queue := [], inFlight := s.link.inFlight }
        answer := some { code := 13, outcome := .done, adjusted := args.length != 0, data := [] } } ∧
      (∀ n : Nat, t.store.slot n = s.store.slot n ∨ t.store.slot n = none) ∧
      (let held (x : Voice) : List Entry := x.current.toList.map (·.entry) ++ x.stack.map (·.entry) ++ x.queue
       let entries := held s.voiceA ++ held s.voiceB
       (s.store.slots.length = 24 → ∀ e ∈ entries, ∀ head : Nat, e.start = .slot head →
         ∀ n ∈ s.store.chain 24 head, t.store.slot n = none) ∧
       (∀ n : Nat, (∀ e ∈ entries, ∀ head : Nat, e.start = .slot head → n ∉ s.store.chain 24 head) →
         t.store.slot n = s.store.slot n))

/-! ## The list load -/

/-- LOAD LIST in IDLE, with no load in flight, discards the list and enters LOADING; with a cartridge seated the loader's
header transfer is asked for, without one the load ends ABSENT at once with its LIST record; elsewhere it is BUSY (R3, R6).
The cartridge-present pin rising during a load ends it ABSENT: the records are discarded, a waiting transfer is withdrawn and
one in flight completes with its bytes thrown away, ending nothing, and a new load that waits for its header asks for it
then, no request of the loader waiting meanwhile (R98); outside a load the rise changes nothing (R7, R100). The word count,
records to take, cut note and identity that a load holds before its header has been read are the model's choice (log 38).
That the pin is read as an operand of the command is the model's form of the row (log 24). The adjusted flag of the BUSY
reply is the model's reading (R172, log 20). -/
def Obligations.LoadBeginsAndIsCutOff : Prop :=
  (∀ (s : State) (args : List Byte), s.takesRequest →
    let reply (o : ReplyOutcome) : Option Reply := some {
      code := 2, outcome := o, adjusted := args.length != 0, data := [] }
    let load : Load := { phase := .header, address := 0, wordCount := 0, toTake := 0, cut := false, identity := 0 }
    ((s.round.state ≠ .idle ∨ s.words.state = .loading) → ∀ seated : Bool,
      exec (.loadList seated args) s = .next { s.heard with answer := reply .busy }) ∧
    (s.round.state = .idle → s.words.state ≠ .loading → s.hasTransfer .loader = false →
      exec (.loadList true args) s = .next { s.heard with
        words := { state := .loading, identity := 0, records := [] }
        loader := some load, port := s.portAsked .loader .header, answer := reply .started }) ∧
    (s.round.state = .idle → s.words.state ≠ .loading → s.hasTransfer .loader = true →
      exec (.loadList true args) s = .next { s.heard with
        words := { state := .loading, identity := 0, records := [] }
        loader := some load, answer := reply .started }) ∧
    (s.round.state = .idle → s.words.state ≠ .loading →
      exec (.loadList false args) s = .next { s.heard.post (.list .absent 0) with
        words := { state := .empty, identity := 0, records := [] }, loader := none, answer := reply .started })) ∧
  (∀ s : State,
    (s.words.state = .loading →
      exec .cartridgeRemoved s = .next { s.post (.list .absent 0) with
        words := { state := .empty, identity := 0, records := [] }, loader := none, port := (s.withdraw .loader).port }) ∧
    (s.words.state ≠ .loading → exec .cartridgeRemoved s = .next s) ∧
    (∀ t, s.port.inFlight = some t → ∀ (bytes : List Byte) (m : Byte), t.requester = .loader → t.discarded = true →
      s.loader = none →
      (t.kind = .header → exec (.headerTransfer bytes) s = .next s.transferEnds.grant) ∧
      (t.kind.isCountByte = true → exec (.countByteTransfer m) s = .next s.transferEnds.grant) ∧
      (t.kind.isBody = true → exec (.bodyTransfer bytes) s = .next s.transferEnds.grant)) ∧
    (∀ t, s.port.inFlight = some t → ∀ (bytes : List Byte) (m : Byte), t.requester = .loader → t.discarded = true →
      s.port.waiting.any (fun u => u.requester == .loader) = false → ∀ l, s.loader = some l → l.phase = .header →
      let asked := s.setPort (s.transferEnds.portAsked .loader .header)
      (t.kind = .header → exec (.headerTransfer bytes) s = .next asked) ∧
      (t.kind.isCountByte = true → exec (.countByteTransfer m) s = .next asked) ∧
      (t.kind.isBody = true → exec (.bodyTransfer bytes) s = .next asked)))

/-- When the header transfer completes, a wrong mark or a word count of 0 ends the load BAD_MARK; otherwise the loader holds
the identity, the records to take, whether the count was cut, and asks for the count byte at address 5 (R4, R6). The five
bytes are those of Table 1-1. -/
def Obligations.HeaderChecked : Prop :=
  ∀ (s : State) (l : Load), s.loader = some l → ∀ a b c d n : Byte,
    s.port.inFlight = some { requester := .loader, kind := .header, discarded := false } →
    s.port.waiting.any (fun t => t.requester == .loader) = false →
    (¬ (a = 0xC7 ∧ b = 0x3A) ∨ n = 0 →
      exec (.headerTransfer [a, b, c, d, n]) s = .next { s.post (.list .badMark 0) with
        words := { state := .empty, identity := 0, records := [] }, loader := none, port := s.transferEnds.grant.port }) ∧
    (a = 0xC7 ∧ b = 0x3A ∧ n ≠ 0 →
      exec (.headerTransfer [a, b, c, d, n]) s = .next { s with
        loader := some {
          phase := .countByte, address := 5, wordCount := n.toNat, toTake := min 64 n.toNat
          cut := decide (64 < n.toNat), identity := BitVec.ofNat 16 (c.toNat * 256 + d.toNat) }
        port := s.transferEnds.portAsked .loader (.countByte 5) })

/-- A count byte of 0 or above 16 ends the load TRUNCATED, keeping the records taken; any other m asks for the m + 4 bytes of
the body. A body adds its record, usable when every code is within 1..26; the last record to take ends the load, LOADED or,
when the count was cut, TRUNCATED; before it, the next count byte is asked for (R1, R5, R6, R10, R17). -/
def Obligations.RecordTaken : Prop :=
  ∀ (s : State) (l : Load), s.loader = some l →
    s.port.waiting.any (fun t => t.requester == .loader) = false →
    (∀ t, s.port.inFlight = some t → ∀ m : Byte, t.requester = .loader → t.kind.isCountByte = true → t.discarded = false →
      (m.toNat = 0 ∨ 16 < m.toNat → s.words.records = [] →
        exec (.countByteTransfer m) s = .next { s.post (.list .truncated 0) with
          words := { state := .empty, identity := 0, records := [] }, loader := none, previous := none
          progress := List.replicate 64 { box := 0, rest := 0 }, port := s.transferEnds.grant.port }) ∧
      (m.toNat = 0 ∨ 16 < m.toNat → s.words.records ≠ [] →
        exec (.countByteTransfer m) s = .next { s.post (.list .truncated s.words.records.length) with
          words := { s.words with state := .ready, identity := l.identity }, loader := none, previous := none
          progress := List.replicate 64 { box := 0, rest := 0 }, port := s.transferEnds.grant.port }) ∧
      (1 ≤ m.toNat → m.toNat ≤ 16 →
        exec (.countByteTransfer m) s = .next { s with
          loader := some { l with phase := .body m.toNat, address := l.address + 1 }
          port := s.transferEnds.portAsked .loader (.body (l.address + 1) (m.toNat + 4)) })) ∧
    (∀ t, s.port.inFlight = some t → ∀ (m : Nat) (bytes : List Byte), t.requester = .loader → t.kind.isBody = true →
      t.discarded = false → l.phase = .body m → bytes.length = m + 4 →
      let r : WordRecord := {
        letters := (bytes.take m).map (·.toNat)
        sayPhrase := (byteAt bytes m * 256 + byteAt bytes (m + 1)) % 512
        sentence :=
          let field := byteAt bytes (m + 2) * 256 + byteAt bytes (m + 3)
          if field ≤ 511 then some field else none
        usable := (bytes.take m).all (fun x => decide (1 ≤ x.toNat ∧ x.toNat ≤ 26)) }
      (s.words.records.length + 1 < l.toTake →
        exec (.bodyTransfer bytes) s = .next { s with
          words := { s.words with records := s.words.records ++ [r] }
          loader := some { l with phase := .countByte, address := l.address + (m + 4) }
          port := s.transferEnds.portAsked .loader (.countByte (l.address + (m + 4))) }) ∧
      (l.toTake ≤ s.words.records.length + 1 →
        exec (.bodyTransfer bytes) s = .next {
          s.post (.list (if l.cut then .truncated else .loaded) (s.words.records.length + 1)) with
          words := { state := .ready, identity := l.identity, records := s.words.records ++ [r] }
          loader := none, previous := none, progress := List.replicate 64 { box := 0, rest := 0 }
          port := s.transferEnds.grant.port }))

/-! ## Utterance Store, walks and Memory Port -/

/-- A spelling takes the lowest free slots, three letters to a slot, whole, shortened to what fits, or not at all; its slots
are chained in order, the last link being 0; each letter takes its letter phrase's entry, or a length of 0, and is followed
by a pause; freeing the utterance frees the same slots again (R95, R96, R97). That the slots freed are those of the
utterance's chain is the model's reading (log 26). -/
def Obligations.SpellingTakesLowestSlots : Prop :=
  ∀ (s : State) (letters : List Nat), s.store.slots.length = 24 → letters ≠ [] →
    (s.store.freeSlots = [] → s.compose letters = (s, none)) ∧
    (∀ head, s.store.freeSlots.head? = some head →
      let taken := s.store.freeSlots.take ((letters.length + 2) / 3)
      let t := (s.compose letters).1
      s.compose letters = (t, some { head := head, letters := min letters.length (3 * taken.length) }) ∧
      t = { s with store := { s.store with slots := t.store.slots } } ∧
      t.store.chain 24 head = taken ∧
      t.store.freeSlots = s.store.freeSlots.drop taken.length ∧
      (∀ n : Nat, n ∉ taken → t.store.slot n = s.store.slot n) ∧
      (∀ i : Nat, ∀ n, taken[i]? = some n →
        t.store.slot n = some {
          link := (taken[i + 1]?).getD 0
          pairs := (((letters.drop (3 * i)).take 3).flatMap (fun x =>
              [s.store.letterPair (letterPhrase s.setup.letterVoice x), Pair.mk 15 0]) ++
            List.replicate 6 (Pair.mk 0 0)).take 6 }) ∧
      (t.store.free taken).freeSlots = s.store.freeSlots)

/-- The letter table read takes the phrases 1..52 in order: an empty directory entry gives none, another asks for its first
descriptor, whose first pair with a length and a segment 1..1023 becomes the entry, or none; after phrase 52 the read has
ended (R94). No request of the read waits meanwhile. -/
def Obligations.LetterTableRead : Prop :=
  ∀ (s : State) (r : LetterRead), s.store.reader = some r → ∀ t, s.port.inFlight = some t → ∀ bytes : List Byte,
    t.requester = .letterTable → s.port.waiting.any (fun u => u.requester == .letterTable) = false →
    let next (e : LetterEntry) : State := { s with
      store := { s.store with
        letters := s.store.letters.set (r.phrase - 1) e
        reader := if r.phrase < 52 then some { phrase := r.phrase + 1, address := none } else none }
      port := if r.phrase < 52 then s.transferEnds.portAsked .letterTable (.phraseDirectory (r.phrase + 1))
              else s.transferEnds.grant.port }
    (t.kind.isPhraseDirectory = true → addressAt bytes 0 = 0xFFFFFF →
      exec (.phraseDirectoryFetch bytes) s = .next (next .none)) ∧
    (t.kind.isPhraseDirectory = true → addressAt bytes 0 ≠ 0xFFFFFF →
      exec (.phraseDirectoryFetch bytes) s = .next { s with
        store := { s.store with reader := some { phrase := r.phrase, address := some (addressAt bytes 0) } }
        port := s.transferEnds.portAsked .letterTable (.romDescriptor (addressAt bytes 0)) }) ∧
    (t.kind.isRomDescriptor = true →
      exec (.romDescriptorFetch bytes) s = .next (next
        (match ((List.range 6).map (pairAt bytes)).find? (fun p => decide (1 ≤ p.length ∧ 1 ≤ p.segment)) with
         | some p => .sound p
         | none => .none)))

/-- A voice's phrase directory entry: an empty one ends the walk, COMPLETE at once when the utterance has had no frame and
the voice then falls QUIET with nothing else held; another is the address of the descriptor that the walk enters next (R85,
R89, R91, R113). A descriptor, from the ROM or a RAM slot, is entered: the chain count rises by 1 unless the walk resumes in
it, and the walk goes to its pair; for a pair with frames of a segment other than 0 it asks for that segment's directory
entry (R87, R88, R89, R99, R117). The grants at the event's end are the model's reading (log 25). -/
def Obligations.WalkEntersDescriptors : Prop :=
  (∀ (s : State) (v : VoiceId) (bytes : List Byte), ∀ c, (s.voice v).current = some c → ∀ t, s.port.inFlight = some t →
    t.requester = .voice v → t.kind.isPhraseDirectory = true → t.discarded = false →
    s.port.waiting.any (fun u => u.requester == .voice v) = false → (s.voice v).buffer.length < 2 →
    (addressAt bytes 0 ≠ 0xFFFFFF →
      exec (.phraseDirectoryFetch bytes) s = .next
        ((s.setVoice v { s.voice v with current := some { c with place := .descriptor (.rom (addressAt bytes 0)) 1 false } }).setPort
          (s.transferEnds.portAsked (.voice v) (.romDescriptor (addressAt bytes 0))))) ∧
    (addressAt bytes 0 = 0xFFFFFF → c.yielded = true →
      exec (.phraseDirectoryFetch bytes) s = .next
        ((s.setVoice v { s.voice v with current := some { c with place := .finished .complete } }).setPort
          s.transferEnds.grant.port)) ∧
    (∀ p, c.entry.start = .phrase p → addressAt bytes 0 = 0xFFFFFF → c.yielded = false → c.entry.mark = false →
      (s.voice v).queue = [] → (s.voice v).stack = [] →
      let u := if c.entry.tag = 0 then s else s.post (.spoken c.entry.tag .complete)
      exec (.phraseDirectoryFetch bytes) s = .next ((u.setVoice v Voice.quiet).setPort s.transferEnds.grant.port))) ∧
  (∀ (s : State) (v : VoiceId), ∀ c, (s.voice v).current = some c → ∀ t, s.port.inFlight = some t →
    t.requester = .voice v → t.discarded = false → s.port.waiting.any (fun u => u.requester == .voice v) = false →
    (s.voice v).buffer.length < 2 → ∀ (ref : DescRef) (again : Bool) (pair : Nat), 1 ≤ pair →
    c.place = .descriptor ref pair again →
    let entered (d : Descriptor) (p : Pair) : State :=
      (s.setVoice v { s.voice v with
        current := some { c with
          chain := if again then c.chain else c.chain + 1, place := .pairs ref d pair 0 none } }).setPort
        (s.transferEnds.portAsked (.voice v) (.segmentDirectory p.segment))
    (∀ bytes : List Byte, t.kind.isRomDescriptor = true →
      let p : Pair := { length := byteAt bytes (3 * (pair - 1)), segment := word16At bytes (3 * (pair - 1) + 1) % 1024 }
      pair ≤ 6 → 1 ≤ p.length → 1 ≤ p.segment →
      exec (.romDescriptorFetch bytes) s = .next (entered (descriptorOf bytes) p)) ∧
    (∀ n, t.kind.ramSlot = some n → ∀ d, s.store.slot n = some d → ∀ p, d.pairs[pair - 1]? = some p → 1 ≤ p.length →
      1 ≤ p.segment → exec .ramDescriptorFetch s = .next (entered d p)))

/-- A segment directory entry with frames makes the walk ask for the pair's first sound frame; an empty entry is heard as
silence, frame for frame: a pair of two frames or more then fills an empty fetch buffer with two silence frames (R86, R88,
R111). A fetched frame enters the fetch buffer with its pair as restart point, and the walk passes it; with a frame already
there the buffer is full and the voice makes no request; with none the next frame of the pair, 24 bytes on, is asked for
(R88, R98, R111). After a pair's last frame the walk skips pairs of length 0 without a fetch; the next pair gives a silence
frame when its segment is 0 and else asks for its segment's directory entry; with no pair left the walk leaves the descriptor
by its next link: 0 ends it COMPLETE, the chain guard ends it CUT after the 16th descriptor, a ROM link asks for its phrase's
directory entry and a RAM link for its slot's descriptor (R88, R89, R90). That an address is taken in 24 bits, and the grants
at the event's end, are the model's readings (log 21, log 25). -/
def Obligations.WalkFetchesFrames : Prop :=
  (∀ (s : State) (v : VoiceId) (bytes : List Byte), ∀ c, (s.voice v).current = some c → ∀ t, s.port.inFlight = some t →
    t.requester = .voice v → t.kind.isSegmentDirectory = true → t.discarded = false →
    s.port.waiting.any (fun u => u.requester == .voice v) = false →
    ∀ (ref : DescRef) (d : Descriptor) (pair : Nat), c.place = .pairs ref d pair 0 none →
    ∀ p, d.pairs[pair - 1]? = some p → 1 ≤ p.length → 1 ≤ p.segment →
    let start := addressAt bytes 0
    let count := word16At bytes 3
    (start ≠ 0xFFFFFF → 1 ≤ count → (s.voice v).buffer.length < 2 →
      exec (.segmentDirectoryFetch bytes) s = .next
        ((s.setVoice v { s.voice v with
          current := some { c with place := .pairs ref d pair 0 (some (.run start count)) } }).setPort
          (s.transferEnds.portAsked (.voice v) (.frame start)))) ∧
    (start = 0xFFFFFF ∨ count = 0 → 2 ≤ p.length → (s.voice v).buffer = [] →
      exec (.segmentDirectoryFetch bytes) s = .next
        ((s.setVoice v { s.voice v with
          current := some { c with place := .pairs ref d pair 2 (some .silent), yielded := true }
          buffer := [{ sound := .silence, point := .pair ref c.chain pair },
                     { sound := .silence, point := .pair ref c.chain pair }] }).setPort s.transferEnds.grant.port))) ∧
  (∀ (s : State) (v : VoiceId) (bytes : List Byte), ∀ c, (s.voice v).current = some c → ∀ t, s.port.inFlight = some t →
    t.requester = .voice v → t.kind.isFrame = true → t.discarded = false →
    s.port.waiting.any (fun u => u.requester == .voice v) = false →
    ∀ (ref : DescRef) (d : Descriptor) (pair frame : Nat) (start : BitVec 24) (count : Nat),
    c.place = .pairs ref d pair frame (some (.run start count)) →
    let passed : Context := { c with place := .pairs ref d pair (frame + 1) (some (.run start count)), yielded := true }
    let f : Fetched := { sound := .frame bytes, point := .pair ref c.chain pair }
    ((s.voice v).buffer.length = 1 →
      exec (.frameFetch bytes) s = .next
        ((s.setVoice v { s.voice v with current := some passed, buffer := (s.voice v).buffer ++ [f] }).setPort
          s.transferEnds.grant.port)) ∧
    (∀ p, d.pairs[pair - 1]? = some p → (s.voice v).buffer = [] → 1 ≤ p.segment → frame + 1 < p.length →
      frame + 1 < count →
      exec (.frameFetch bytes) s = .next
        ((s.setVoice v { s.voice v with current := some passed, buffer := [f] }).setPort
          (s.transferEnds.portAsked (.voice v) (.frame (start + BitVec.ofNat 24 (24 * (frame + 1)))))))) ∧
  (∀ (s : State) (v : VoiceId) (bytes : List Byte), ∀ c, (s.voice v).current = some c → ∀ t, s.port.inFlight = some t →
    t.requester = .voice v → t.kind.isFrame = true → t.discarded = false →
    s.port.waiting.any (fun u => u.requester == .voice v) = false → (s.voice v).buffer = [] →
    ∀ (ref : DescRef) (d : Descriptor) (pair frame : Nat) (start : BitVec 24) (count : Nat),
    c.place = .pairs ref d pair frame (some (.run start count)) → d.pairs.length ≤ 6 → 1 ≤ pair →
    ∀ p, d.pairs[pair - 1]? = some p → 1 ≤ p.length → 1 ≤ p.segment → min p.length count ≤ frame + 1 →
    let f : Fetched := { sound := .frame bytes, point := .pair ref c.chain pair }
    let moved (place : WalkPlace) (more : List Fetched) (port : Port) : State :=
      (s.setVoice v { s.voice v with
        current := some { c with place := place, yielded := true }, buffer := f :: more }).setPort port
    let asked (kind : TransferKind) : Port := s.transferEnds.portAsked (.voice v) kind
    let idle : Port := s.transferEnds.grant.port
    ((∀ q ∈ d.pairs.drop pair, q.length = 0) →
      (d.link = 0 → exec (.frameFetch bytes) s = .next (moved (.finished .complete) [] idle)) ∧
      (d.link ≠ 0 → 16 ≤ c.chain → exec (.frameFetch bytes) s = .next (moved (.finished .cut) [] idle)) ∧
      (∀ a : BitVec 24, d.link ≠ 0 → c.chain < 16 → ref = .rom a →
        exec (.frameFetch bytes) s = .next (moved (.phraseEntry d.link) [] (asked (.phraseDirectory d.link)))) ∧
      (∀ n : Nat, d.link ≠ 0 → c.chain < 16 → ref = .ram n →
        exec (.frameFetch bytes) s = .next
          (moved (.descriptor (.ram d.link) 1 false) [] (asked (.ramDescriptor d.link))))) ∧
    (∀ skipped : Nat, ∀ q, (d.pairs.drop pair)[skipped]? = some q → 1 ≤ q.length →
      (∀ z ∈ (d.pairs.drop pair).take skipped, z.length = 0) →
      let next := pair + skipped + 1
      (1 ≤ q.segment → exec (.frameFetch bytes) s = .next
        (moved (.pairs ref d next 0 none) [] (asked (.segmentDirectory q.segment)))) ∧
      (q.segment = 0 → exec (.frameFetch bytes) s = .next
        (moved (.pairs ref d next 1 none) [{ sound := .silence, point := .pair ref c.chain next }] idle))))

/-- A request joins the waiting ones behind every one granted before it and not behind a later one, and a free port grants
the first of them and leaves the others waiting in their order: voice A's frames, voice B's frames, then directory and
descriptor fetches of voice A, of voice B and of the letter table read, then the List Loader (R98). A transfer whose
requester lost its purpose runs to its end with its bytes thrown away: at a QUIET voice its end frees the port and changes
nothing else, whatever it carried (R99, R100, R118); at a SOUNDING voice whose new utterance waits for that end, the
utterance's first request is made then (R109). That the grant falls at the end of the event which made the requests is the
model's reading (log 25). -/
def Obligations.PortGrantsAndFrees : Prop :=
  ((∀ (s : State) (r : Requester) (kind : TransferKind), s.waitingInOrder →
    let t : Transfer := { requester := r, kind := kind, discarded := false }
    (s.ask r kind).waitingInOrder ∧
    ((s.ask r kind).port.waiting.Perm (t :: s.port.waiting)) ∧
    (∀ u, s.port.inFlight = some u → (s.ask r kind).grant.port = (s.ask r kind).port) ∧
    (s.port.inFlight = none → (∀ u ∈ s.port.waiting, t.order < u.order) → (s.ask r kind).grant.port.inFlight = some t) ∧
    (s.port.inFlight = none → (s.ask r kind).grant.port = {
      inFlight := (s.ask r kind).port.waiting.head?, waiting := (s.ask r kind).port.waiting.tail })) ∧
  (∀ k : TransferKind, ∀ d : Bool,
    let rank (r : Requester) : Nat := ({ requester := r, kind := k, discarded := d } : Transfer).order
    (k.isFrame = true → rank (.voice .A) = 0 ∧ rank (.voice .B) = 1) ∧
    (k.isFrame = false → rank (.voice .A) = 2 ∧ rank (.voice .B) = 3) ∧ rank .letterTable = 4 ∧ rank .loader = 5)) ∧
  (∀ (s : State) (v : VoiceId) (bytes : List Byte), ∀ t, s.port.inFlight = some t → t.requester = .voice v →
    t.discarded = true → (s.voice v).current = none →
    (t.kind.isPhraseDirectory = true → exec (.phraseDirectoryFetch bytes) s = .next s.transferEnds.grant) ∧
    (t.kind.isSegmentDirectory = true → exec (.segmentDirectoryFetch bytes) s = .next s.transferEnds.grant) ∧
    (t.kind.isRomDescriptor = true → exec (.romDescriptorFetch bytes) s = .next s.transferEnds.grant) ∧
    (∀ n, t.kind.ramSlot = some n → exec .ramDescriptorFetch s = .next s.transferEnds.grant) ∧
    (t.kind.isFrame = true → exec (.frameFetch bytes) s = .next s.transferEnds.grant)) ∧
  (∀ (s : State) (v : VoiceId) (bytes : List Byte), ∀ t, s.port.inFlight = some t → t.requester = .voice v →
    t.discarded = true → s.port.waiting.any (fun u => u.requester == .voice v) = false →
    ∀ c, (s.voice v).current = some c → (s.voice v).buffer.length < 2 → ∀ kind : TransferKind,
    (∃ p, c.place = .phraseEntry p ∧ kind = .phraseDirectory p) ∨
      (∃ (n pair : Nat) (again : Bool), c.place = .descriptor (.ram n) pair again ∧ kind = .ramDescriptor n) ∨
      (∃ (a : BitVec 24) (pair : Nat) (again : Bool), c.place = .descriptor (.rom a) pair again ∧ kind = .romDescriptor a) →
    let asked := s.setPort (s.transferEnds.portAsked (.voice v) kind)
    (t.kind.isPhraseDirectory = true → exec (.phraseDirectoryFetch bytes) s = .next asked) ∧
    (t.kind.isSegmentDirectory = true → exec (.segmentDirectoryFetch bytes) s = .next asked) ∧
    (t.kind.isRomDescriptor = true → exec (.romDescriptorFetch bytes) s = .next asked) ∧
    (∀ n, t.kind.ramSlot = some n → exec .ramDescriptorFetch s = .next asked) ∧
    (t.kind.isFrame = true → exec (.frameFetch bytes) s = .next asked))

/-! ## Voices and Mixer -/

/-- A frame boundary of a voice whose utterance neither ends nor is preempted renders the frame at the buffer head and sets
the restart point to that frame's pair; with an empty buffer it renders silence, which is waiting before the utterance's
first frame and counts as an underrun, to at most 255, after it. Where the voice's next transfer is under way already, or its
walk has finished, nothing else is asked for. Where the buffer was full and no transfer is under way, the walk advances: it
asks for the next frame of its pair, or, past the pair's last frame, skips pairs of length 0 and asks for the next pair's
segment directory entry, or leaves by the next link; a silence frame enters the buffer at once and fills it again (R88, R89,
R90, R98). A QUIET voice has no frame boundary (R110, R111, R112, R117). That a QUIET voice's boundary changes nothing is the
model's way with an event the state does not admit (log 3); an address in 24 bits and the grant at the event's end are its
readings (log 21, log 25). -/
def Obligations.BoundaryRendersFrame : Prop :=
  (∀ (s : State) (v : VoiceId), s.portSettled →
    ((s.voice v).current = none → exec (.frameBoundary v) s = .next s) ∧
    (∀ c, (s.voice v).current = some c → (∀ e ∈ (s.voice v).queue, e.priority ≤ c.entry.priority) →
      s.hasTransfer (.voice v) = true →
      (∀ f, (s.voice v).buffer.head? = some f → exec (.frameBoundary v) s = .next
        (s.setVoice v { s.voice v with
          current := some { c with rendered := true, restart := f.point }
          buffer := (s.voice v).buffer.tail, rendering := f.sound })) ∧
      ((s.voice v).buffer = [] → c.rendered = false → (∀ o, c.place ≠ .finished o) →
        exec (.frameBoundary v) s = .next (s.setVoice v { s.voice v with rendering := .silence })) ∧
      ((s.voice v).buffer = [] → c.rendered = true → (∀ o, c.place ≠ .finished o) →
        exec (.frameBoundary v) s = .next
          ((s.setVoice v { s.voice v with rendering := .silence }).setUnderruns (min 255 (s.underruns + 1))))) ∧
    (∀ c, (s.voice v).current = some c → (∀ e ∈ (s.voice v).queue, e.priority ≤ c.entry.priority) →
      ∀ f, (s.voice v).buffer.head? = some f → ∀ o : SpokenOutcome, c.place = .finished o →
      exec (.frameBoundary v) s = .next
        (s.setVoice v { s.voice v with
          current := some { c with rendered := true, restart := f.point }
          buffer := (s.voice v).buffer.tail, rendering := f.sound }))) ∧
  (∀ (s : State) (v : VoiceId), s.portSettled → s.hasTransfer (.voice v) = false →
    ∀ c, (s.voice v).current = some c → (∀ e ∈ (s.voice v).queue, e.priority ≤ c.entry.priority) →
    ∀ f g : Fetched, (s.voice v).buffer = [f, g] →
    ∀ (ref : DescRef) (d : Descriptor) (pair frame : Nat) (seg : Option SegEntry), c.place = .pairs ref d pair frame seg →
    d.pairs.length ≤ 6 → 1 ≤ pair → ∀ p, d.pairs[pair - 1]? = some p → 1 ≤ p.length →
    let moved (place : WalkPlace) (port : Port) : State :=
      (s.setVoice v { s.voice v with
        current := some { c with rendered := true, restart := f.point, place := place }
        buffer := [g], rendering := f.sound }).setPort port
    let silent (next : Nat) (place : WalkPlace) : State :=
      s.setVoice v { s.voice v with
        current := some { c with rendered := true, restart := f.point, place := place, yielded := true }
        buffer := [g, { sound := .silence, point := .pair ref c.chain next }], rendering := f.sound }
    let asked (kind : TransferKind) : Port := s.portAsked (.voice v) kind
    (∀ (start : BitVec 24) (count : Nat), seg = some (.run start count) → 1 ≤ p.segment → frame < p.length → frame < count →
      exec (.frameBoundary v) s = .next (moved c.place (asked (.frame (start + BitVec.ofNat 24 (24 * frame)))))) ∧
    (p.segment = 0 ∨ seg = some .silent → frame < p.length →
      exec (.frameBoundary v) s = .next (silent pair (.pairs ref d pair (frame + 1) seg))) ∧
    (p.length ≤ frame ∧ (p.segment = 0 ∨ seg ≠ none) ∨
        (∃ start count, seg = some (.run start count) ∧ 1 ≤ p.segment ∧ count ≤ frame) →
      ((∀ q ∈ d.pairs.drop pair, q.length = 0) →
        (d.link = 0 → exec (.frameBoundary v) s = .next (moved (.finished .complete) s.port)) ∧
        (d.link ≠ 0 → 16 ≤ c.chain → exec (.frameBoundary v) s = .next (moved (.finished .cut) s.port)) ∧
        (∀ a : BitVec 24, d.link ≠ 0 → c.chain < 16 → ref = .rom a →
          exec (.frameBoundary v) s = .next (moved (.phraseEntry d.link) (asked (.phraseDirectory d.link)))) ∧
        (∀ n : Nat, d.link ≠ 0 → c.chain < 16 → ref = .ram n →
          exec (.frameBoundary v) s = .next
            (moved (.descriptor (.ram d.link) 1 false) (asked (.ramDescriptor d.link))))) ∧
      (∀ skipped : Nat, ∀ q, (d.pairs.drop pair)[skipped]? = some q → 1 ≤ q.length →
        (∀ z ∈ (d.pairs.drop pair).take skipped, z.length = 0) →
        let next := pair + skipped + 1
        (1 ≤ q.segment → exec (.frameBoundary v) s = .next
          (moved (.pairs ref d next 0 none) (asked (.segmentDirectory q.segment)))) ∧
        (q.segment = 0 → exec (.frameBoundary v) s = .next (silent next (.pairs ref d next 1 none))))))

/-- The boundary after an utterance's last frame ends it, with its SPOKEN record when it carries a tag, and the voice falls
QUIET, or starts the head of its queue, or resumes the top of its resume stack when that has at least the head's priority
(R113, R116, R117, R120). The entries started and resumed here are phrases, and the voice's requests are not waiting. An
ended utterance that carries the mark of the round moves it: SOLO_OPENING to SOLO_OPEN with the round timer at 60 s,
CIRCLE_OPENING to CIRCLE_PLAYER, SOLO_REVIEW to IDLE; the mark of another round moves nothing (R68, R79, R121, R159). An
ended spelling frees its slots in the same event (R97). That an utterance whose walk has finished and whose buffer is empty
ends at the next boundary in every case, and that the boundary at which another starts renders its waiting silence, are the
model's readings (log 18, log 29), and so are the slots of a spelling, those of its chain (log 26), the number of a mark (log
15) and the round word none in IDLE (log 23). The pitch of the queue head that starts is that of the voice mode now in force,
the model's choice (log 37). -/
def Obligations.BoundaryEndsUtterance : Prop :=
  (∀ (s : State) (v : VoiceId), s.portSettled → s.hasTransfer (.voice v) = false → (s.voice v).buffer = [] →
    ∀ c, (s.voice v).current = some c → ∀ (o : SpokenOutcome) (p : Nat), c.place = .finished o →
    c.entry.start = .phrase p → c.entry.mark = false →
    let u := if c.entry.tag = 0 then s else s.post (.spoken c.entry.tag o)
    let asks (x : Voice) (kind : TransferKind) : State := (u.setVoice v x).setPort (s.portAsked (.voice v) kind)
    ((s.voice v).queue = [] → (s.voice v).stack = [] →
      exec (.frameBoundary v) s = .next (u.setVoice v Voice.quiet)) ∧
    (∀ e, (s.voice v).queue.head? = some e → ∀ q : Nat, e.start = .phrase q → (s.voice v).queue.tail = [] →
      (∀ d ∈ (s.voice v).stack, d.entry.priority < e.priority) →
      exec (.frameBoundary v) s = .next (asks
        { current := some (s.startContext v e), queue := [], stack := (s.voice v).stack, buffer := [], rendering := .silence }
        (.phraseDirectory q))) ∧
    (∀ d, (s.voice v).stack.head? = some d → ∀ q : Nat, d.entry.start = .phrase q →
      (∀ e ∈ (s.voice v).queue, e.priority ≤ d.entry.priority) →
      (d.restart = .start →
        exec (.frameBoundary v) s = .next (asks
          { s.voice v with
            current := some { d with chain := 0, place := .phraseEntry q, rendered := false, yielded := false }
            stack := (s.voice v).stack.tail, rendering := .silence }
          (.phraseDirectory q))) ∧
      (∀ (a : BitVec 24) (chain pair : Nat), d.restart = .pair (.rom a) chain pair →
        exec (.frameBoundary v) s = .next (asks
          { s.voice v with
            current := some { d with
              chain := chain, place := .descriptor (.rom a) pair true, rendered := false, yielded := true }
            stack := (s.voice v).stack.tail, rendering := .silence }
          (.romDescriptor a))))) ∧
  (∀ (s : State) (v : VoiceId), s.portSettled → (s.voice v).buffer = [] → (s.voice v).queue = [] → (s.voice v).stack = [] →
    ∀ c, (s.voice v).current = some c → ∀ o : SpokenOutcome, c.place = .finished o →
    let u := if c.entry.tag = 0 then s else s.post (.spoken c.entry.tag o)
    let ended := u.setVoice v Voice.quiet
    (∀ (n p : Nat), c.entry.start = .phrase p → c.entry.markNo = some n →
      (s.round.marked ≠ some n → exec (.frameBoundary v) s = .next ended) ∧
      (s.round.marked = some n →
        (s.round.state = .soloOpening → exec (.frameBoundary v) s = .next { ended with
          round := { s.round with state := .soloOpen, marked := none, soloTimer := .running 60 } }) ∧
        (s.round.state = .circleOpening → exec (.frameBoundary v) s = .next { ended with
          round := { s.round with state := .circlePlayer, marked := none } }) ∧
        (s.round.state = .soloReview → exec (.frameBoundary v) s = .next { ended with
          round := s.round.closed, attempt := Attempt.cleared, judge := { s.judge with rows := [] } }))) ∧
    (∀ head : Nat, c.entry.start = .slot head → c.entry.markNo = none →
      ∃ t : State, exec (.frameBoundary v) s = .next t ∧
        t = { ended with store := { s.store with slots := t.store.slots } } ∧
        ∀ n : Nat, t.store.slot n = if n ∈ s.store.chain 24 head then none else s.store.slot n))

/-- At a boundary a queue head of higher priority than the current utterance preempts it: the context is pushed on the resume
stack, a third context falls off the bottom and ends CUT, the buffer is emptied and the queue head starts. A request of the
voice that is waiting is withdrawn, and the start's own request is made; a transfer of the voice in flight runs to its end
with its bytes thrown away, and the start makes no request while it does (R98, R100, R114, R115). The queue here holds only
that entry, a phrase, and the one that falls off is a phrase without this round's mark. The order of the records is the
model's reading (log 22), the silence of the starting boundary too (log 29). The pitch that the queue head starts with is
that of the voice mode now in force, the model's choice (log 37). -/
def Obligations.BoundaryPreempts : Prop :=
  ∀ (s : State) (v : VoiceId), s.portSettled →
    ∀ c, (s.voice v).current = some c → ∀ e, (s.voice v).queue.head? = some e → ∀ p : Nat, e.start = .phrase p →
    (s.voice v).queue.tail = [] → c.entry.priority < e.priority →
    ((s.voice v).buffer ≠ [] ∨ ∀ o, c.place ≠ .finished o) →
    let started (stack : List Context) : Voice := {
      current := some (s.startContext v e), queue := [], stack := stack, buffer := [], rendering := .silence }
    let cut : Port := {
      inFlight := s.port.inFlight.map (fun t => if t.requester = .voice v then { t with discarded := true } else t)
      waiting := s.port.waiting.filter (fun t => t.requester != .voice v) }
    let port : Port := if s.port.inFlight.any (fun t => t.requester == .voice v) then cut
      else (s.setPort cut).portAsked (.voice v) (.phraseDirectory p)
    ((s.voice v).stack.length < 2 →
      exec (.frameBoundary v) s = .next ((s.setVoice v (started (c :: (s.voice v).stack))).setPort port)) ∧
    (∀ d, (s.voice v).stack.head? = some d → ∀ b, (s.voice v).stack.tail.head? = some b → ∀ q : Nat,
      (s.voice v).stack.length = 2 → b.entry.start = .phrase q →
      b.entry.markNo = none ∨ b.entry.markNo ≠ s.round.marked →
      let u := if b.entry.tag = 0 then s else s.post (.spoken b.entry.tag .cut)
      exec (.frameBoundary v) s = .next ((u.setVoice v (started [c, d])).setPort port))

/-- In SPLIT mode a group goes to voice B when its source is PEER and to voice A otherwise; in SHARED mode to a QUIET voice,
A before B, and with both SOUNDING to the one whose current utterance has the lower priority, A when they are equal; on voice
A in SPLIT mode an utterance is spoken at the own pitch, elsewhere at its entry's (R106, R107, R108). An entry offered to a
SOUNDING voice joins a queue with room; a full queue drops its youngest entry of lower priority for it, or drops the entry
itself when there is none; nothing is reordered (R103, R104). The dropped entries here are phrases without mark. The queue's
head is its oldest entry of highest priority. The queue is held in join order and read by priority (log 14). That the voice
mode in force at the start gives the pitch, for an entry queued before a SETUP changed it too, is the model's choice (log
37). -/
def Obligations.OffersAssignedAndOrdered : Prop :=
  (∀ (s : State) (source : Source),
    (s.setup.voiceMode = .split → s.assign source = if source = .peer then .B else .A) ∧
    (s.setup.voiceMode = .shared → s.voiceA.current = none → s.assign source = .A) ∧
    (s.setup.voiceMode = .shared → s.voiceA.current ≠ none → s.voiceB.current = none → s.assign source = .B) ∧
    (∀ a, s.voiceA.current = some a → ∀ b, s.voiceB.current = some b → s.setup.voiceMode = .shared →
      s.assign source = if b.entry.priority < a.entry.priority then .B else .A) ∧
    (∀ (v : VoiceId) (e : Entry),
      s.loadedPitch v e = if s.setup.voiceMode = .split ∧ v = .A then s.setup.ownPitch else e.pitch)) ∧
  ((∀ (s : State) (v : VoiceId) (e : Entry), (s.voice v).current ≠ none →
    ((s.voice v).queue.length < 6 →
      s.offer v e = (s.setVoice v { s.voice v with queue := (s.voice v).queue ++ [e] }, true)) ∧
    (6 ≤ (s.voice v).queue.length → (∀ d ∈ (s.voice v).queue, e.priority ≤ d.priority) → e.mark = false →
      ∀ p : Nat, e.start = .phrase p →
      s.offer v e = (if e.tag = 0 then s else s.post (.spoken e.tag .dropped), false)) ∧
    (∀ (before after : List Entry) (d : Entry) (p : Nat), (s.voice v).queue = before ++ d :: after →
      6 ≤ (s.voice v).queue.length → d.priority < e.priority → (∀ f ∈ after, e.priority ≤ f.priority) →
      d.start = .phrase p → d.mark = false →
      s.offer v e = ((if d.tag = 0 then s else s.post (.spoken d.tag .dropped)).setVoice v
        { s.voice v with queue := before ++ after ++ [e] }, true))) ∧
  (∀ (before after : List Entry) (e : Entry), e.priority ≤ 3 → (∀ d ∈ before, d.priority < e.priority) →
    (∀ d ∈ after, d.priority ≤ e.priority) →
    queueHead (before ++ e :: after) = some e ∧ queueRest (before ++ e :: after) = before ++ after))

/-- The Mixer's sample is ((a × gain A + b × gain B) × volume) / 128 truncated toward zero and clamped to −2048..2047, with
gain B halved, rounded down, while duck is ON and voice A is SOUNDING, and 0 for a voice that is QUIET or renders silence; a
clamped sample raises the clip count, to at most 255, and sets CLIPPED; nothing else changes (R122, R123, R124). The samples
a and b that the frames give are the command's operands (the model's reading, log 13). -/
def Obligations.MixerSample : Prop :=
  ∀ (s : State) (a b : BitVec 12),
    let heard (x : Voice) (given : Int) : Int := if x.current.isSome ∧ x.rendering ≠ .silence then given else 0
    let gainB : Nat := if s.setup.duck ∧ s.voiceA.current.isSome then s.setup.gainB / 2 else s.setup.gainB
    let sum : Int :=
      (heard s.voiceA a.toInt * s.setup.gainA + heard s.voiceB b.toInt * gainB) * s.setup.volume
    let raw : Int := if 0 ≤ sum then sum / 128 else -(-sum / 128)
    (-2048 ≤ raw → raw ≤ 2047 →
      exec (.samplePeriod a b) s = .next { s with mixer := { s.mixer with output := raw } }) ∧
    (raw < -2048 ∨ 2047 < raw →
      exec (.samplePeriod a b) s = .next { s with
        mixer := { clips := min 255 (s.mixer.clips + 1), output := if raw < 0 then -2048 else 2047 }
        flags := { s.flags with clipped := true } })

/-! ## Keys -/

/-- A scan pass, in any power state but doze, moves each key by its reading: an agreeing reading sets its run count to 0, a
disagreeing one raises it, and the third in a row turns a DOWN or BLOCKED key UP and makes an UP key a press candidate, which
becomes DOWN or BLOCKED. A pass with one candidate blocks it when it is the fourth corner of a rectangle of DOWN keys, and
otherwise queues its code, or sets KEY_OVERRUN when the Key Queue holds 8. In a pass with several candidates they are taken
in increasing key code, each tested against the keys as the earlier ones left them; the codes of those that pass join the Key
Queue in that order until it holds 8, and each one after that is dropped with KEY_OVERRUN. In doze nothing is scanned (R49 to
R54). The 64 readings are the command's operand (log 24). That the ghost test reads the keys with the pass's releases already
made is the model's reading (log 17). -/
def Obligations.ScanPassReadsKeys : Prop :=
  ∀ (s : State) (down : BitVec 64), s.scannerFormed →
    (s.power = .dozing → exec (.scanPass down) s = .next s) ∧
    (s.power ≠ .dozing → ∃ t : State, exec (.scanPass down) s = .next t ∧
      t = { s with scanner := t.scanner, flags := { s.flags with keyOverrun := t.flags.keyOverrun } } ∧
      (∀ k : Nat, ∀ x, s.scanner.keys[k]? = some x →
        (x.state = .up → down.getLsbD k = false → t.scanner.keys[k]? = some { state := .up, run := 0 }) ∧
        (x.state = .up → down.getLsbD k = true → x.run < 2 →
          t.scanner.keys[k]? = some { state := .up, run := x.run + 1 }) ∧
        (x.state = .up → down.getLsbD k = true → x.run = 2 →
          t.scanner.keys[k]? = some { state := .down, run := 0 } ∨
          t.scanner.keys[k]? = some { state := .blocked, run := 0 }) ∧
        (x.state ≠ .up → down.getLsbD k = true → t.scanner.keys[k]? = some { state := x.state, run := 0 }) ∧
        (x.state ≠ .up → down.getLsbD k = false → x.run < 2 →
          t.scanner.keys[k]? = some { state := x.state, run := x.run + 1 }) ∧
        (x.state ≠ .up → down.getLsbD k = false → x.run = 2 →
          t.scanner.keys[k]? = some { state := .up, run := 0 })) ∧
      (pressCandidates down s.scanner.keys = [] → t.scanner.queue = s.scanner.queue ∧ t.flags = s.flags) ∧
      (∀ k, (pressCandidates down s.scanner.keys).head? = some k → (pressCandidates down s.scanner.keys).tail = [] →
        let others := readKeys down s.scanner.keys
        let blocked := ∃ r c : Nat, r < 8 ∧ c < 8 ∧ r ≠ k / 8 ∧ c ≠ k % 8 ∧
          keyDown others (8 * (k / 8) + c) = true ∧ keyDown others (8 * r + k % 8) = true ∧ keyDown others (8 * r + c) = true
        (blocked → t.scanner.keys[k]? = some { state := .blocked, run := 0 } ∧ t.scanner.queue = s.scanner.queue ∧
          t.flags = s.flags) ∧
        (¬ blocked → t.scanner.keys[k]? = some { state := .down, run := 0 } ∧
          (s.scanner.queue.length < 8 → t.scanner.queue = s.scanner.queue ++ [k] ∧ t.flags = s.flags) ∧
          (8 ≤ s.scanner.queue.length → t.scanner.queue = s.scanner.queue ∧ t.flags.keyOverrun = true))) ∧
      (let pressed := pressCandidates down s.scanner.keys
       let passed := pressed.filter (keyDown t.scanner.keys)
       pressed.Pairwise (· < ·) ∧
       (∀ k : Nat, k ∈ pressed ↔ ∃ x, s.scanner.keys[k]? = some x ∧ x.state = .up ∧ x.run = 2 ∧ down.getLsbD k = true) ∧
       (∀ k ∈ pressed,
         let others := (readKeys down s.scanner.keys).mapIdx (fun j x =>
           if j ∈ pressed ∧ j < k then t.scanner.keys.getD j x else x)
         let blocked := ∃ r c : Nat, r < 8 ∧ c < 8 ∧ r ≠ k / 8 ∧ c ≠ k % 8 ∧
           keyDown others (8 * (k / 8) + c) = true ∧ keyDown others (8 * r + k % 8) = true ∧
           keyDown others (8 * r + c) = true
         (blocked → t.scanner.keys[k]? = some { state := .blocked, run := 0 }) ∧
         (¬ blocked → t.scanner.keys[k]? = some { state := .down, run := 0 })) ∧
       t.scanner.queue = s.scanner.queue ++ passed.take (8 - s.scanner.queue.length) ∧
       (t.flags.keyOverrun = true ↔
         s.flags.keyOverrun = true ∨ (passed ≠ [] ∧ 8 < s.scanner.queue.length + passed.length))))

/-- A key taken in IDLE or CIRCLE_DEALING, whatever its code, and a key of code 30..63 taken in SOLO_OPEN or CIRCLE_PLAYER,
is forwarded as a KEY record, with no speech and no other change; in SOLO_OPEN it restarts the round timer (R55, R56, R58,
R59, R69). A key taken by a station that is not a player is forwarded, a letter key or Done with the buzz; a key other than
Done taken in SOLO_REVIEW is discarded; in SOLO_OPENING and CIRCLE_OPENING, and while the part dozes or settles, keys wait
(R55, R57, R58, R62). That the row OTHER_KEY takes every code the state does not use is the model's reading (log 9). -/
def Obligations.KeysNotUsed : Prop :=
  (∀ (s : State) (k : Nat), s.keyWaits k → s.portSettled →
    (s.round.state = .idle ∨ s.round.state = .circleDealing →
      exec (keyRow k) s = .next (s.keyTaken.post (.key k)) ∧ exec .otherKey s = .next (s.keyTaken.post (.key k))) ∧
    (s.round.state = .soloOpen ∨ s.round.state = .circlePlayer → 30 ≤ k →
      exec .otherKey s = .next (s.keyTaken.post (.key k)))) ∧
  (∀ (s : State) (k : Nat),
    (s.keyWaits k → s.round.state = .circleSpectator ∨ s.round.state = .circleLost →
      (k < 26 ∨ k = 27 → s.freeToSpeak →
        exec (keyRow k) s = .next ((s.keyTaken.post (.key k)).saying .own 1 69 [])) ∧
      (26 ≤ k → k ≠ 27 → s.portSettled → exec (keyRow k) s = .next (s.keyTaken.post (.key k)))) ∧
    (s.keyWaits k → s.round.state = .soloReview → k ≠ 27 → s.portSettled → exec (keyRow k) s = .next s.keyTaken) ∧
    (s.round.state = .soloOpening ∨ s.round.state = .circleOpening ∨ s.power ≠ .awake → exec (keyRow k) s = .next s))

/-- A letter key in SOLO_OPEN with 20 letters landed is refused with "that's enough letters"; a kept one is pushed on the row
stack and landed in one event, sets the miss count to 0 and is echoed, with "check that letter" after an OFF verdict in
COACHED style (R32, R40, R42, R70). -/
def Obligations.SoloLetterLands : Prop :=
  ∀ (s : State) (k : Nat), s.keyWaits k → s.round.state = .soloOpen → k < 26 → s.freeToSpeak →
    let x := k + 1
    let row := pushedRow s.judge.pairs s.targetLetters s.judge.rows x
    let v := row.verdict s.setup.closeLimit
    (20 ≤ s.attempt.landed.length → exec .letterKey s = .next (s.keyTaken.saying .own 1 66 [])) ∧
    (s.attempt.landed.length < 20 → s.setup.style ≠ .guided ∨ v = .on →
      exec .letterKey s = .next (({ s.keyTaken with
        judge := { s.judge with rows := row :: s.judge.rows }
        attempt := { s.attempt with landed := s.attempt.landed ++ [x] }
        round := { s.keyTaken.round with misses := 0 } } : State).saying .own 1
          (if s.setup.letterVoice = .name then x else x + 26)
          (if s.setup.style = .coached ∧ v = .off then [60] else [])))

/-- In GUIDED style a letter key whose verdict is NEAR or OFF does not join the attempt: the first and second miss give the
buzz and "try another", the third the buzz and the hint letter, an assist, or "that's all the letters"; the rows and the
letters stay (R31, R43, R44, R45, R48). It holds in SOLO_OPEN and, with no CLOSE queued, in CIRCLE_PLAYER. -/
def Obligations.GuidedRefusesLetter : Prop :=
  ∀ (s : State) (k : Nat), s.keyWaits k → k < 26 → s.freeToSpeak → s.setup.style = .guided →
    (pushedRow s.judge.pairs s.targetLetters s.judge.rows (k + 1)).frontier ≠ 0 →
    s.round.state = .soloOpen ∧ s.attempt.landed.length < 20 ∨
      s.round.state = .circlePlayer ∧ s.hasEntry .close = false ∧ s.attempt.count < 20 ∧ s.attempt.pending.length < 3 →
    let facts := s.keyTaken.round
    (s.round.misses < 2 → exec .letterKey s = .next
      (({ s.keyTaken with round := { facts with misses := s.round.misses + 1 } } : State).saying .own 1 69 [59])) ∧
    (2 ≤ s.round.misses →
      (∀ x, s.hintLetter = some x → exec .letterKey s = .next
        (({ s.keyTaken with round := { facts with misses := 0, assists := min 255 (s.round.assists + 1) } } : State).saying
          .own 1 69 [if s.setup.letterVoice = .name then x else x + 26])) ∧
      (s.hintLetter = none → exec .letterKey s = .next
        (({ s.keyTaken with round := { facts with misses := 0 } } : State).saying .own 1 69 [62])))

/-- Erase in SOLO_OPEN takes back the last landed letter and its row with a click, or buzzes with none; for a circle player
it buzzes and changes nothing (R33, R161). Repeat says the word and its sentence by turns, the word alone when it has no
sentence; Hint speaks the hint letter and counts a hint and an assist, or says that there are no more hints or letters; both
at priority 2, in solo play and for a circle player alike (R48, R71, R72, R161). That the buzz for Erase with no landed
letter has priority 1 is the model's choice (log 39). -/
def Obligations.EraseRepeatHint : Prop :=
  (∀ s : State, s.keyWaits 26 → s.freeToSpeak →
    (s.round.state = .soloOpen → s.attempt.landed = [] → exec .eraseKey s = .next (s.keyTaken.saying .own 1 69 [])) ∧
    (s.round.state = .soloOpen → s.attempt.landed ≠ [] → 2 ≤ s.judge.rows.length →
      exec .eraseKey s = .next (({ s.keyTaken with
        judge := { s.judge with rows := s.judge.rows.tail }
        attempt := { s.attempt with landed := s.attempt.landed.dropLast }
        round := { s.keyTaken.round with misses := 0 } } : State).saying .own 1 68 [])) ∧
    (s.round.state = .circlePlayer → exec .eraseKey s = .next (s.keyTaken.saying .own 1 69 []))) ∧
  (∀ s : State, s.freeToSpeak → s.round.state = .soloOpen ∨ s.round.state = .circlePlayer →
    (s.keyWaits 28 → ∀ w, s.round.word = some w → ∀ r, s.wordAt w = some r →
      exec .repeatKey s = .next (({ s.keyTaken with
        round := { s.keyTaken.round with
          nextRepeat := if s.round.nextRepeat = .word ∧ r.sentence ≠ none then .sentence else .word } } : State).saying
            .round 2 (if s.round.nextRepeat = .sentence then r.sentence.getD r.sayPhrase else r.sayPhrase) [])) ∧
    (s.keyWaits 29 →
      (3 ≤ s.round.hints → exec .hintKey s = .next (s.keyTaken.saying .round 2 61 [])) ∧
      (s.round.hints < 3 → s.hintLetter = none → exec .hintKey s = .next (s.keyTaken.saying .round 2 62 [])) ∧
      (∀ x, s.hintLetter = some x → s.round.hints < 3 → exec .hintKey s = .next (({ s.keyTaken with
        round := { s.keyTaken.round with
          hints := s.round.hints + 1, assists := min 255 (s.round.assists + 1) } } : State).saying .round 2
            (if s.setup.letterVoice = .name then x else x + 26) []))))

/-- Done in SOLO_OPEN with no letter says "spell it first"; with letters it grades the round in one event: the box by the
grade, the RESULT record, SOLO_REVIEW, and the result speech with its last entry marked, which for a grade other than PERFECT
spells the word back (R11, R73, R75, R76, R77). Done in SOLO_REVIEW stops the voice that holds the marked utterance; its end
returns the round to IDLE: target, letters and rows cleared, round facts closed. The voice here holds only that utterance, an
untagged phrase, known by its mark's number (R68, R78, R79, R118, log 15). The order of compositions and records inside the
event is the model's reading (log 22). That the spelling is composed before the group's first entry is offered is the model's
choice (log 35). That the round word becomes none on the return to IDLE is the model's reading (log 23). -/
def Obligations.DoneGradesAndEndsReview : Prop :=
  (∀ s : State, s.keyWaits 27 → s.round.state = .soloOpen → s.freeToSpeak →
    (s.attempt.landed = [] → exec .doneKey s = .next (s.keyTaken.saying .own 1 65 [])) ∧
    (∀ w, s.round.word = some w → ∀ e, s.progress[w]? = some e → s.attempt.landed ≠ [] →
      let u := s.post (.result .solo w s.grade s.score s.attempt.landed.length s.round.assists)
      let graded (box : Nat) (store : Store) (first : Nat) (behind : List Entry) (mark : Bool) : State := { u with
        scanner := { s.scanner with queue := s.scanner.queue.tail }
        progress := s.progress.set w { box := box, rest := e.rest }
        round := { s.round with
          soloTimer := .stopped, state := .soloReview, marked := some s.round.marks, marks := s.round.marks + 1 }
        store := store
        voiceA := s.speaking .A (s.remark .round 2 first mark) behind
        port := s.portAsked (.voice .A) (.phraseDirectory first) }
      (s.grade = .perfect → exec .doneKey s = .next (graded (min 4 (e.box + 1)) s.store 54 [] true)) ∧
      (∀ x, (s.compose s.targetLetters).2 = some x → s.grade = .close ∨ s.grade = .wrong →
        exec .doneKey s = .next (graded (if s.grade = .close then e.box else 0) (s.compose s.targetLetters).1.store
          (if s.grade = .close then 55 else 56)
          [s.remark .round 2 57 false,
           { source := .round, priority := 2, start := .slot x.head, pitch := s.setup.ownPitch, tag := 0, markNo := none },
           s.remark .round 2 s.sayPhrase true] false)))) ∧
  (∀ (s : State) (v : VoiceId) (n p : Nat), s.keyWaits 27 → s.round.state = .soloReview → s.portSettled →
    s.round.marked = some n → ∀ c, (s.voice v).current = some c → (s.voice v).queue = [] → (s.voice v).stack = [] →
    c.entry.markNo = some n → (v = .B → ∀ e ∈ s.voiceA.entries, e.markNo ≠ some n) →
    c.entry.tag = 0 → c.entry.start = .phrase p →
    exec .doneKey s = .next (({ s with
      scanner := { s.scanner with queue := s.scanner.queue.tail }
      round := s.round.closed, attempt := Attempt.cleared, judge := { s.judge with rows := [] }
      port := (s.withdraw (.voice v)).port } : State).setVoice v Voice.quiet))

/-- A letter key of a circle player is buzzed while its CLOSE is queued or 3 letters are pending, and refused at 20 letters;
kept, it is pushed, becomes pending, queues a LETTER frame with tag, position, letter and prefix check, and clicks; nothing
lands yet (R34, R160). Done of a circle player is buzzed while its CLOSE is queued, refused with "spell it first" with no
letter, and otherwise queues a CLOSE frame with tag, count and prefix check over landed and pending letters, with a click;
the round stays open (R161). -/
def Obligations.CircleKeysQueueFrames : Prop :=
  (∀ (s : State) (k : Nat), s.keyWaits k → s.round.state = .circlePlayer → k < 26 → s.freeToSpeak →
    let x := k + 1
    let row := pushedRow s.judge.pairs s.targetLetters s.judge.rows x
    (s.hasEntry .close = true → exec .letterKey s = .next (s.keyTaken.saying .own 1 69 [])) ∧
    (s.hasEntry .close = false → 20 ≤ s.attempt.count → exec .letterKey s = .next (s.keyTaken.saying .own 1 66 [])) ∧
    (s.hasEntry .close = false → s.attempt.count < 20 → 3 ≤ s.attempt.pending.length →
      exec .letterKey s = .next (s.keyTaken.saying .own 1 69 [])) ∧
    (∀ tag, s.round.tag = some tag → s.hasEntry .close = false → s.attempt.count < 20 → s.attempt.pending.length < 3 →
      s.link.countKind .letter < 3 → s.setup.style ≠ .guided ∨ row.frontier = 0 →
      exec .letterKey s = .next (({ s.keyTaken with
        judge := { s.judge with rows := row :: s.judge.rows }
        attempt := { s.attempt with pending := s.attempt.pending ++ [x] }
        round := { s.round with misses := 0 }
        link := { s.link with queue := s.link.queue ++ [{
          kind := .letter, sending := false
          body := [Byte.of tag, Byte.of (s.attempt.count + 1), Byte.of x,
                   Byte.of (prefixCheck (s.attempt.letters ++ [x]))] }] } } : State).saying .own 1 68 []))) ∧
  (∀ s : State, s.keyWaits 27 → s.round.state = .circlePlayer → s.freeToSpeak →
    (s.hasEntry .close = true → exec .doneKey s = .next (s.keyTaken.saying .own 1 69 [])) ∧
    (s.hasEntry .close = false → s.attempt.count = 0 → exec .doneKey s = .next (s.keyTaken.saying .own 1 65 [])) ∧
    (∀ tag, s.round.tag = some tag → s.hasEntry .close = false → 1 ≤ s.attempt.count →
      exec .doneKey s = .next (({ s.keyTaken with
        link := { s.link with queue := s.link.queue ++ [{
          kind := .close, sending := false
          body := [Byte.of tag, Byte.of s.attempt.count, Byte.of (prefixCheck s.attempt.letters)] }] } } : State).saying
            .own 1 68 [])))

/-! ## Timers and doze -/

/-- The solo round timer running out closes the round without a grade when no letter has landed, with an ABANDONED record and
no speech; with letters it grades the round as Done does: the box by the grade, the RESULT record, SOLO_REVIEW, and the
marked result speech, which for CLOSE and WRONG spells the word back, or goes on without the spelling when no slot is free;
in any state but SOLO_OPEN no timer runs and nothing expires (R11, R69, R74, R75, R76, R77, R96). The circle timer running
out says "round over" and closes the round here: without a record for a spectator or a lost station, with an ABANDONED record
for a player with no landed letter; a player with landed letters grades them, and for CLOSE or WRONG, here with a free slot,
hears the word spelled. Own LETTER and CLOSE entries leave the transmit queue and pending letters are removed (R37, R153,
R168, R169). That the end of a timer is a command, and one at a stopped timer changes nothing, is the model's form (log 2,
log 3). The order of compositions and records, the facts in IDLE, the miss count at the removal of pending letters and the
numbers of marks are the model's readings (log 22, log 23, log 33, log 15), and that the spelling is composed before the
group's first entry is offered its choice (log 35). -/
def Obligations.RoundTimersExpire : Prop :=
  (∀ s : State, s.portSettled →
    (s.round.state ≠ .soloOpen → exec .roundTimerExpiry s = .next s) ∧
    (s.round.state = .soloOpen → s.round.soloTimer ≠ .stopped → s.attempt.landed = [] →
      exec .roundTimerExpiry s = .next {
        s.post (.result .solo (s.round.word.getD 0) .abandoned 0 0 s.round.assists) with
        round := s.round.closed, attempt := Attempt.cleared, judge := { s.judge with rows := [] } }) ∧
    (∀ w, s.round.word = some w → ∀ e, s.progress[w]? = some e → s.round.state = .soloOpen →
      s.round.soloTimer ≠ .stopped → s.attempt.landed ≠ [] → s.freeToSpeak →
      let graded (box : Nat) (store : Store) (first : Nat) (behind : List Entry) (mark : Bool) : State := {
        s.post (.result .solo w s.grade s.score s.attempt.landed.length s.round.assists) with
        progress := s.progress.set w { box := box, rest := e.rest }
        round := { s.round with
          soloTimer := .stopped, state := .soloReview, marked := some s.round.marks, marks := s.round.marks + 1 }
        store := store
        voiceA := s.speaking .A (s.remark .round 2 first mark) behind
        port := s.portAsked (.voice .A) (.phraseDirectory first) }
      let box := if s.grade = .close then e.box else 0
      let first := if s.grade = .close then 55 else 56
      (s.grade = .perfect → exec .roundTimerExpiry s = .next (graded (min 4 (e.box + 1)) s.store 54 [] true)) ∧
      (s.grade = .close ∨ s.grade = .wrong → (s.compose s.targetLetters).2 = none →
        exec .roundTimerExpiry s = .next (graded box s.store first
          [s.remark .round 2 57 false, s.remark .round 2 s.sayPhrase true] false)) ∧
      (∀ x, (s.compose s.targetLetters).2 = some x → s.grade = .close ∨ s.grade = .wrong →
        exec .roundTimerExpiry s = .next (graded box (s.compose s.targetLetters).1.store first
          [s.remark .round 2 57 false,
           { source := .round, priority := 2, start := .slot x.head, pitch := s.setup.ownPitch, tag := 0, markNo := none },
           s.remark .round 2 s.sayPhrase true] false)))) ∧
  (∀ s : State, s.freeToSpeak → s.round.circleTimer ≠ .stopped →
    let closed (u : State) : State := { u with
      link := { s.link with queue := withoutRoundFrames s.link.queue }
      round := { s.round.closed with misses := if s.attempt.pending = [] then s.round.misses else 0 }
      attempt := Attempt.cleared, judge := { s.judge with rows := [] } }
    (s.round.state.circleOpen = false → exec .circleTimerExpiry s = .next s) ∧
    (s.round.state = .circleSpectator ∨ s.round.state = .circleLost → s.attempt.pending = [] →
      exec .circleTimerExpiry s = .next ((closed s).saying .round 2 64 [])) ∧
    (s.round.state = .circleOpening ∨ s.round.state = .circlePlayer → s.attempt.landed = [] →
      exec .circleTimerExpiry s = .next
        ((closed (s.post (.result .circle (s.round.word.getD 0) .abandoned 0 0 s.round.assists))).saying .round 2 64 [])) ∧
    (s.round.state = .circleOpening ∨ s.round.state = .circlePlayer → s.attempt.landed ≠ [] → s.attempt.pending = [] →
      s.grade = .perfect →
      exec .circleTimerExpiry s = .next ((closed (s.post (.result .circle (s.round.word.getD 0) .perfect s.score
        s.attempt.landed.length s.round.assists))).saying .round 2 54 [])) ∧
    (∀ x, (s.compose s.targetLetters).2 = some x → s.round.state = .circleOpening ∨ s.round.state = .circlePlayer →
      s.attempt.landed ≠ [] → s.attempt.pending = [] → s.grade = .close ∨ s.grade = .wrong →
      exec .circleTimerExpiry s = .next {
        closed (s.post (.result .circle (s.round.word.getD 0) s.grade s.score s.attempt.landed.length s.round.assists)) with
        store := (s.compose s.targetLetters).1.store
        voiceA := s.speaking .A (s.remark .round 2 (if s.grade = .close then 55 else 56) false)
          [s.remark .round 2 57 false,
           { source := .round, priority := 2, start := .slot x.head, pitch := s.setup.ownPitch, tag := 0, markNo := none },
           s.remark .round 2 s.sayPhrase false]
        port := s.portAsked (.voice .A) (.phraseDirectory (if s.grade = .close then 55 else 56)) }))

/-- A tick of the beat timer queues a BEAT with the list identity, the summary byte and the last tag, in the place of one
already queued, when beat is ON; every Roster entry ages by 1, one whose age reaches 3 leaving with its PEER LEFT record in
increasing laptop number; the clash hold falls by 1. In doze and through the settle no tick falls (R137, R140, R144, R150).
ROSTER_AGE_OUT removes the entries whose age would reach 3 and posts their PEER LEFT records, and changes nothing else: no
other entry ages (R150). That the row is the tick's removal alone is the model's reading (log 8). -/
def Obligations.BeatTimerAgesRoster : Prop :=
  (∀ s : State,
    let left := (agedOut s.roster).foldl (fun u n => u.post (.peer .left n)) s
    let aged := s.roster.map (fun e => (e.filter (fun x => decide (x.age < 2))).map (fun x => { x with age := x.age + 1 }))
    let beat : TxEntry := {
      kind := .beat, sending := false
      body := [Byte.of (s.words.identity.toNat / 256), Byte.of (s.words.identity.toNat % 256),
        Byte.of (s.round.state.code * 16 + s.words.state.code * 4 + s.link.state.code * 2 +
          (if s.setup.circle then 1 else 0)),
        Byte.of s.round.lastTag] }
    (s.power ≠ .awake → exec .beatTick s = .next s) ∧
    (s.power = .awake → s.setup.beat = false →
      exec .beatTick s = .next { left with
        roster := aged, link := { s.link with clashHold := s.link.clashHold - 1 } }) ∧
    (s.power = .awake → s.setup.beat = true →
      exec .beatTick s = .next { left with
        roster := aged
        link := { s.link with
          clashHold := s.link.clashHold - 1, queue := s.link.queue.filter (fun e => e.kind != .beat) ++ [beat] } }) ∧
    (∀ n : Nat, n ∈ agedOut s.roster ↔ ∃ e : RosterEntry, rosterAt s.roster n = some e ∧ 2 ≤ e.age) ∧
    (agedOut s.roster).Pairwise (· < ·)) ∧
  (∀ s : State,
    (s.power ≠ .awake → exec .rosterAgeOut s = .next s) ∧
    (s.power = .awake → exec .rosterAgeOut s = .next {
      (agedOut s.roster).foldl (fun u n => u.post (.peer .left n)) s with
      roster := s.roster.map (fun e => e.filter (fun x => decide (x.age < 2))) }))

/-- Once its DONE reply to DOZE has been sent the part dozes: the receiver is OFF, the transmit queue empty, both voices
QUIET, every key UP; with the any-key line closed it wakes at once with cause KEY (R61, R119, R145). In doze the any-key line
closing wakes the part with cause KEY and a link fall with cause LINK: the settle begins and every key is UP with run count
0; a wake under way starts no second one. The end of the settle puts the receiver in GAP WAIT, empties the Roster without
PEER records and posts the WOKE record (R61, R62, R146, R148). The any-key line is the operand of REPLY_FRAME (log 24). -/
def Obligations.DozeAndWake : Prop :=
  (∀ (s : State) (anyKey : Bool), s.hearing = true → s.portSettled → s.voiceA.current = none → s.voiceB.current = none →
    s.quietVoicesEmpty → ∀ x, s.link.inFlight = some x → x.place = .answer →
    ∀ r, s.answer = some r → r.code = 14 → r.outcome = .done →
    exec (.replyFrame anyKey) s = .next { s.heardOwn with
      power := if anyKey then .settling .key else .dozing
      scanner := { s.scanner with keys := List.replicate 64 { state := .up, run := 0 } }
      link := { s.heardOwn.link with receiver := .off, queue := [] }
      port := ((s.withdraw (.voice .A)).withdraw (.voice .B)).port }) ∧
  (∀ s : State,
    let woken (cause : WakeCause) : State := { s with
      power := .settling cause
      scanner := { s.scanner with keys := List.replicate 64 { state := .up, run := 0 } } }
    (s.power = .dozing → exec .keyWake s = .next (woken .key) ∧ exec .linkWake s = .next (woken .link)) ∧
    (s.power ≠ .dozing → exec .keyWake s = .next s ∧ exec .linkWake s = .next s) ∧
    (∀ cause : WakeCause, s.power = .settling cause → exec .settleEnd s = .next { s.post (.woke cause) with
      power := .awake, link := { s.link with receiver := .gapWait 0 }, roster := List.replicate 8 none }) ∧
    (s.power = .awake ∨ s.power = .dozing → exec .settleEnd s = .next s))

/-! ## The line -/

/-- The receiver counts high cells in GAP WAIT, is READY at 16, and a low resets the count; READY, a falling edge begins a
frame at cell 0, which a station with no frame ready does not join; a low that ends before cell 12 is no frame and no bad
frame; OFF reads nothing (R127, R128). The count of cells as operand and count 0 after a glitch are the model's form (log 7).
-/
def Obligations.ReceiverFollowsLine : Prop :=
  ∀ s : State,
    (∀ n cells : Nat, s.link.receiver = .gapWait n →
      exec .lowInGapWait s = .next (s.setReceiver (.gapWait 0)) ∧
      exec .openingLow s = .next (s.setReceiver (.gapWait 0)) ∧
      (n + cells < 16 → exec (.quietGap cells) s = .next (s.setReceiver (.gapWait (n + cells)))) ∧
      (16 ≤ n + cells → exec (.quietGap cells) s = .next (s.setReceiver .ready))) ∧
    (s.link.receiver = .ready → s.link.queue = [] → s.answer = none → s.reports = [] →
      exec .openingLow s = .next (s.setReceiver (.inFrame 0))) ∧
    (∀ cell : Nat, s.link.receiver = .inFrame cell → s.link.inFlight = none →
      (cell < 12 → exec .glitch s = .next (s.setReceiver (.gapWait 0))) ∧
      (12 ≤ cell → exec .glitch s = .next s)) ∧
    (∀ cells : Nat, s.link.receiver = .off →
      exec .lowInGapWait s = .next s ∧ exec .openingLow s = .next s ∧ exec (.quietGap cells) s = .next s ∧
      exec .glitch s = .next s)

/-- The transmitter begins, at the quiet gap, its oldest LETTER or CLOSE, else its DEAL, else the REPLY, else the head
record, else the BEAT, marking the entry it sends; it joins another's opening low with the same choice within cells 0 and 1,
and waits from cell 2 on, or with no frame ready. A STATUS REPLY is filled now (R128, R142, R143, R178). The cell as operand
is the model's form of the row (log 7). -/
def Obligations.FrameOfferedInOrder : Prop :=
  ∀ s : State, s.link.inFlight = none →
    let first (p : TxKind → Bool) := s.link.queue.find? (fun e => p e.kind)
    let zero := first (fun k => k == .letter || k == .close)
    let deal := first (· == .deal)
    let begins (cell : Nat) (q : List TxEntry) (f : Frame) (place : TxPlace) : State :=
      { s with link := { s.link with
        receiver := .inFrame cell, queue := q, inFlight := some { frame := f, place := place } } }
    let answer (code : Nat) (body : List Byte) : Frame := {
      precedence := Byte.of (128 + 9 * s.laptop.toNat), kind := Byte.of (code * 16 + s.laptop.toNat * 2 + 1), body := body }
    let offers (c : Instr) (cell : Nat) : Prop :=
      (∀ e, zero = some e → exec c s = .next (begins cell (markSending (fun k => k == .letter || k == .close) s.link.queue)
        (e.frame s.laptop) .queue)) ∧
      (∀ e, deal = some e → zero = none →
        exec c s = .next (begins cell (markSending (· == .deal) s.link.queue) (e.frame s.laptop) .queue)) ∧
      (∀ r, s.answer = some r → zero = none → deal = none →
        exec c s = .next (begins cell s.link.queue (answer 6
          ([Byte.of r.code, Byte.of (r.outcome.code + if r.adjusted then 128 else 0)] ++
            (if r.code = 9 then statusData s else r.data))) .answer)) ∧
      (∀ r, s.reports.head? = some r → zero = none → deal = none → s.answer = none →
        exec c s = .next (begins cell s.link.queue (answer 7 r.body) .report)) ∧
      (∀ e, first (· == .beat) = some e → zero = none → deal = none → s.answer = none → s.reports = [] →
        exec c s = .next (begins cell (markSending (· == .beat) s.link.queue) (e.frame s.laptop) .queue))
    (s.link.receiver = .ready → offers .openingLow 0) ∧
    (∀ cell : Nat, s.link.receiver = .ready → offers (.frameOffer cell) 0) ∧
    (s.link.receiver = .inFrame 0 → offers (.frameOffer 0) 0 ∧ offers (.frameOffer 1) 1) ∧
    (∀ reached cell : Nat, s.link.receiver = .inFrame reached → 2 ≤ cell → exec (.frameOffer cell) s = .next s) ∧
    (∀ cell : Nat, s.link.queue = [] → s.answer = none → s.reports = [] → exec (.frameOffer cell) s = .next s)

/-- The frames a part sends: the precedence byte holds class, rank and laptop number, the rank of a LETTER or CLOSE being
(laptop − tag) mod 8; the kind byte holds kind, laptop number and role 1; the check byte makes the bytes sum to 0 mod 256;
and the frames of two laptops under one tag never share a precedence byte (R131, R132). The prefix check of letters is the
sum of letter code times position, mod 256 (R160). The STATUS data are seven bytes: Round Controller, Word Table state and
count, link state, the flags in bits 0..5, clip count, underrun count (R178); the state codes, here and in a BEAT's summary
byte, are those of Table 7-3 and the records' kinds, data and codes those of Table 7-4 (R144, R183). -/
def Obligations.FramesFormed : Prop :=
  (∀ (e : TxEntry) (l : BitVec 3),
    let rank := if e.kind = .letter ∨ e.kind = .close then (l.toNat + 256 - byteAt e.body 0) % 8 else l.toNat
    (e.frame l).precedence.toNat / 64 = (match e.kind with | .letter | .close => 0 | .deal => 1 | .beat => 3) ∧
    (e.frame l).precedence.toNat / 8 % 8 = rank ∧ (e.frame l).precedence.toNat % 8 = l.toNat ∧
    (e.frame l).kind.toNat / 16 = (match e.kind with | .beat => 1 | .deal => 2 | .letter => 3 | .close => 4) ∧
    (e.frame l).kind.toNat / 2 % 8 = l.toNat ∧ (e.frame l).kind.toNat % 2 = 1 ∧ (e.frame l).body = e.body) ∧
  (∀ (code : Nat) (l : BitVec 3) (body : List Byte), code ≤ 7 →
    (answerFrame code l body).precedence.toNat = 128 + 9 * l.toNat ∧
    (answerFrame code l body).kind.toNat = code * 16 + l.toNat * 2 + 1) ∧
  (∀ f : Frame, f.bytes.length = f.body.length + 4 ∧ (f.bytes.map (·.toNat)).sum % 256 = 0) ∧
  (∀ (a b : TxEntry) (l m : BitVec 3), l ≠ m → (a.frame l).precedence ≠ (b.frame m).precedence) ∧
  (∀ letters : List Nat,
    prefixCheck letters = ((List.range letters.length).map (fun i => (i + 1) * letters.getD i 0)).sum % 256) ∧
  ([RoundState.idle, .soloOpening, .soloOpen, .soloReview, .circleDealing, .circleOpening, .circlePlayer, .circleSpectator,
      .circleLost].map (·.code) = [0, 1, 2, 3, 4, 5, 6, 7, 8] ∧
    [TableState.empty, .loading, .ready].map (·.code) = [0, 1, 2] ∧ [LinkState.clear, .troubled].map (·.code) = [0, 1] ∧
    [ReplyOutcome.done, .started, .queued, .dropped, .busy, .noList, .noWord, .refused, .unknown].map (·.code) =
      [0, 1, 2, 3, 4, 5, 6, 7, 8]) ∧
  (∀ s : State, ∃ flags : Byte,
    statusData s = [Byte.of s.round.state.code, Byte.of s.words.state.code, Byte.of s.words.records.length,
      Byte.of s.link.state.code, flags, Byte.of s.mixer.clips, Byte.of s.underruns] ∧
    flags.getLsbD 0 = s.flags.keyOverrun ∧ flags.getLsbD 1 = s.flags.reportOverflow ∧
    flags.getLsbD 2 = s.flags.requestOverrun ∧ flags.getLsbD 3 = s.flags.numberClash ∧
    flags.getLsbD 4 = s.flags.linkTrouble ∧ flags.getLsbD 5 = s.flags.clipped ∧
    flags.getLsbD 6 = false ∧ flags.getLsbD 7 = false) ∧
  (∀ (key word score letters assists count tag laptop : Nat) (k : RoundKind) (g : Grade) (notify : Byte) (o : SpokenOutcome)
      (lo : LoadOutcome) (d : DealOutcome) (p : PeerChange) (c : LinkChange) (w : WakeCause),
    (Record.key key).body = [1, Byte.of key] ∧
    (Record.result k word g score letters assists).body =
      [2, match k with | .solo => 0 | .circle => 1, Byte.of word,
       match g with | .perfect => 0 | .close => 1 | .wrong => 2 | .abandoned => 3,
       Byte.of score, Byte.of letters, Byte.of assists] ∧
    (Record.spoken notify.toNat o).body = [3, notify, match o with | .complete => 0 | .cut => 1 | .dropped => 2] ∧
    (Record.list lo count).body =
      [4, match lo with | .absent => 0 | .badMark => 1 | .loaded => 2 | .truncated => 3, Byte.of count] ∧
    (Record.deal d tag word).body =
      [5, match d with | .dealt => 0 | .outdealt => 1 | .failed => 2, Byte.of tag, Byte.of word] ∧
    (Record.peer p laptop).body = [6, match p with | .joined => 0 | .left => 1, Byte.of laptop] ∧
    (Record.link c).body = [7, match c with | .troubled => 0 | .clear => 1 | .clash => 2] ∧
    (Record.woke w).body = [8, match w with | .key => 0 | .link => 1])

/-- A cell read low costs the frame in flight to a sender that sent a 1 there: it holds no frame any more, its entry stays
queued, and it reads on; a sender that sent a 0 goes on. What a frame sends in a cell is its byte's bit, most significant
first, after a start cell of 0; a stop cell is released (R126, R129). The cell as operand is the model's form of the row (log
7). -/
def Obligations.ArbitrationLostOnOne : Prop :=
  (∀ (s : State) (cell reached : Nat), s.link.receiver = .inFrame reached → reached ≤ cell →
    ∀ x, s.link.inFlight = some x →
    (x.frame.sendsOne cell = true → exec (.arbitrationLoss cell) s = .next { s with
      link := { s.link with
        receiver := .inFrame cell, inFlight := none
        queue := s.link.queue.map (fun e => { e with sending := false }) } }) ∧
    (x.frame.sendsOne cell = false → exec (.arbitrationLoss cell) s = .next (s.setReceiver (.inFrame cell)))) ∧
  (∀ (f : Frame) (i k : Nat), ∀ b, f.bytes[i]? = some b → k < 10 →
    (f.sendsOne (12 + 10 * i + k) = true ↔ 1 ≤ k ∧ k ≤ 8 ∧ b.toNat / 2 ^ (8 - k) % 2 = 1) ∧
    (f.drivesLow (12 + 10 * i + k) = true ↔ k = 0 ∨ (k ≤ 8 ∧ b.toNat / 2 ^ (8 - k) % 2 = 0))) ∧
  (∀ (f : Frame) (cell : Nat), (cell < 12 → f.drivesLow cell = true) ∧ (f.cells ≤ cell → f.drivesLow cell = false))

/-- A discarded frame abandons a frame in flight, raises the bad-frame run to at most 15 and sets the good-frame count to 0;
the receiver waits for a quiet gap, or is READY at once after 16 high cells of silence. A CLEAR link whose run reaches the
threshold becomes TROUBLED, with its LINK record, LINK_TROUBLE and "link trouble"; the Round Controller here plays no circle
round (R130, R133, R134, R138). A link that becomes TROUBLED ends a deal as failed, with its DEAL record, in IDLE, and makes
a player a spectator of the same round: own LETTER and CLOSE entries and pending letters are removed, the target is released,
the landed letters stay (R38, R138, R152, R171). The miss count at the removal of pending letters, and the facts in IDLE, are
the model's readings (log 33, log 23). -/
def Obligations.DiscardsAndLinkTrouble : Prop :=
  (∀ (s : State) (cause : DiscardCause), s.hearing = true → s.portSettled →
    let after : Link := { s.link with
      receiver := if cause = .silence then .ready else .gapWait 0
      badRun := min 15 (s.link.badRun + 1), goodCount := 0, inFlight := none
      queue := s.link.queue.map (fun e => { e with sending := false }) }
    (s.link.state = .troubled ∨ after.badRun < s.setup.threshold →
      exec (.frameDiscard cause) s = .next { s with link := after }) ∧
    (s.link.state = .clear → s.setup.threshold ≤ after.badRun → s.freeToSpeak → s.reports.length < 16 →
      s.round.state = .idle ∨ s.round.state = .soloOpening ∨ s.round.state = .soloOpen ∨ s.round.state = .soloReview ∨
        s.round.state = .circleSpectator ∨ s.round.state = .circleLost →
      exec (.frameDiscard cause) s = .next (({ s with
        link := { after with state := .troubled }, reports := s.reports ++ [.link .troubled]
        flags := { s.flags with linkTrouble := true } } : State).saying .round 2 70 []))) ∧
  (∀ (s : State) (cause : DiscardCause), s.hearing = true → s.link.state = .clear → s.freeToSpeak →
    s.setup.threshold ≤ min 15 (s.link.badRun + 1) → s.reports.length < 15 →
    let after (keep : TxEntry → Bool) : Link := { s.link with
      receiver := if cause = .silence then .ready else .gapWait 0
      state := .troubled, badRun := min 15 (s.link.badRun + 1), goodCount := 0, inFlight := none
      queue := (s.link.queue.map (fun e => { e with sending := false })).filter keep }
    (∀ d, s.round.deal = some d → s.round.state = .circleDealing →
      exec (.frameDiscard cause) s = .next (({ s with
        link := after (fun e => e.kind != .deal), flags := { s.flags with linkTrouble := true }
        reports := s.reports ++ [.link .troubled, .deal .failed d.tag d.word]
        round := s.round.closed, attempt := Attempt.cleared, judge := { s.judge with rows := [] } } : State).saying
          .round 2 70 [])) ∧
    (s.round.state = .circleOpening ∨ s.round.state = .circlePlayer →
      exec (.frameDiscard cause) s = .next (({ s with
        link := after (fun e => e.kind != .letter && e.kind != .close), flags := { s.flags with linkTrouble := true }
        reports := s.reports ++ [.link .troubled]
        round := { s.round with
          state := .circleSpectator, misses := if s.attempt.pending = [] then s.round.misses else 0 }
        attempt := { s.attempt with target := none, pending := [] }, judge := { s.judge with rows := [] } } : State).saying
          .round 2 70 [])))

/-- The station's own REPLY, ended good, empties the answer slot; a STATUS REPLY also clears the flags and counts,
LINK_TROUBLE and NUMBER_CLASH being set again while their cause lasts; the own REPORT takes the head record out of its queue.
Each counts as a good frame: on a TROUBLED link the good-frame count rises, and the fourth makes the link CLEAR with its LINK
record, before the flags are cleared or the head record leaves (R134, R135, R139, R143, R178). That a frame is the station's
own when it equals the frame in flight is the model's reading (log 6). -/
def Obligations.OwnReplyAndReportLeave : Prop :=
  ∀ (s : State) (anyKey : Bool), s.hearing = true → s.portSettled → ∀ x, s.link.inFlight = some x →
    let clears := s.link.state = .troubled ∧ 3 ≤ s.link.goodCount
    let after : Link := { s.link with
      receiver := .gapWait 0, badRun := 0, inFlight := none, queue := s.link.queue.filter (fun e => !e.sending)
      state := if clears then .clear else s.link.state
      goodCount := if s.link.state = .clear then s.link.goodCount else if clears then 0 else s.link.goodCount + 1 }
    let u := if clears then s.post (.link .clear) else s
    (∀ r, s.answer = some r → x.place = .answer → r.code ≠ 9 → r.code ≠ 14 ∨ r.outcome ≠ .done →
      exec (.replyFrame anyKey) s = .next { u with link := after, answer := none }) ∧
    (∀ r, s.answer = some r → x.place = .answer → r.code = 9 →
      exec (.replyFrame anyKey) s = .next { u with
        link := after, answer := none, underruns := 0, mixer := { s.mixer with clips := 0 }
        flags := { keyOverrun := false, reportOverflow := false, requestOverrun := false
                   numberClash := decide (0 < s.link.clashHold), linkTrouble := decide (after.state = .troubled)
                   clipped := false } }) ∧
    (x.place = .report → exec .reportFrame s = .next { u with link := after, reports := u.reports.tail })

/-! ## Frames heard and circle rounds -/

/-- A BEAT of a peer part makes or refreshes its Roster entry, age 0, with its list identity, a new one with a PEER JOINED
record; a frame of a peer part of any other kind does the same but for the identity; a frame of a lesson controller reaches
neither. Each counts as a good frame; here the link is CLEAR and no frame is in flight (R134, R136, R148, R149). A good frame
with the station's own laptop number and role 1 that is not its own is a clash: NUMBER_CLASH, a LINK record and the clash
hold at 3. The own BEAT, ended good, leaves the transmit queue. Neither makes a Roster entry. The link here is CLEAR (R135,
R137, R148). That a frame is the station's own when it equals the frame in flight, and that another good frame leaves the one
in flight to go on to its end, are the model's readings (R141, log 6). -/
def Obligations.PartFramesHeard : Prop :=
  (∀ (s : State) (l : BitVec 3) (precedence kind summary lastTag : Byte) (identity : BitVec 16) (body : List Byte),
    s.hearing = true → s.portSettled → s.link.state = .clear → s.link.inFlight = none → s.roster.length = 8 →
    let counted : State := { s with link := { s.link with receiver := .gapWait 0, badRun := 0 } }
    let new (id : Option (BitVec 16)) : RosterEntry := { identity := id, age := 0, placed := 0, onLetters := 0, dealt := 0 }
    (∀ e, rosterAt s.roster l.toNat = some e → l ≠ s.laptop →
      exec (.beatFrame precedence l identity summary lastTag) s = .next { counted with
        roster := s.roster.set l.toNat (some { e with age := 0, identity := some identity }) } ∧
      (kind.toNat / 2 % 8 = l.toNat → kind.toNat % 2 = 1 → exec (.otherFrame precedence kind body) s = .next { counted with
        roster := s.roster.set l.toNat (some { e with age := 0 }) })) ∧
    (rosterAt s.roster l.toNat = none → l ≠ s.laptop →
      exec (.beatFrame precedence l identity summary lastTag) s = .next { counted.post (.peer .joined l.toNat) with
        roster := s.roster.set l.toNat (some (new (some identity))) } ∧
      (kind.toNat / 2 % 8 = l.toNat → kind.toNat % 2 = 1 → exec (.otherFrame precedence kind body) s = .next {
        counted.post (.peer .joined l.toNat) with roster := s.roster.set l.toNat (some (new none)) })) ∧
    (kind.toNat % 2 = 0 → exec (.otherFrame precedence kind body) s = .next counted)) ∧
  (∀ (s : State) (precedence kind summary lastTag : Byte) (identity : BitVec 16) (body : List Byte),
    s.hearing = true → s.portSettled → s.link.state = .clear →
    let f : Frame := { precedence := precedence, kind := kindByte 1 s.laptop.toNat 1, body := bytes16 identity ++ [summary, lastTag] }
    let clashed : State := { s.post (.link .clash) with
      flags := { (s.post (.link .clash)).flags with numberClash := true }
      link := { s.link with
        receiver := if s.link.inFlight.isSome then s.link.receiver else .gapWait 0, badRun := 0, clashHold := 3 } }
    ((∀ x, s.link.inFlight = some x → x.frame ≠ f) →
      exec (.beatFrame precedence s.laptop identity summary lastTag) s = .next clashed) ∧
    (kind.toNat / 2 % 8 = s.laptop.toNat → kind.toNat % 2 = 1 →
      exec (.otherFrame precedence kind body) s = .next clashed) ∧
    (s.link.inFlight = some { frame := f, place := .queue } →
      exec (.beatFrame precedence s.laptop identity summary lastTag) s = .next { s with link := { s.link with
        receiver := .gapWait 0, badRun := 0, inFlight := none, queue := s.link.queue.filter (fun e => !e.sending) } }))

/-- Another station's DEAL heard in IDLE with circle ON, by a station not going to doze, opens a circle round: the station
joins as a player when the link is CLEAR, the table is READY with the DEAL's list identity, and the word is there, usable, of
the DEAL's letter count and outside every window; else it is a spectator, with "listen this time". The facts are set, the
circle timer runs 45 s, the last tag is the DEAL's; a player has the target, R0 and the marked prompt. The station's own DEAL
heard in IDLE, as after an END ROUND while it was in flight, changes the last tag alone (R67, R152, R153, R156, R158, R170).
At a peer's DEAL, whatever the Round Controller does with it, its Roster entry, a new one if need be, has age 0 and its
rounds dealt rises by 1 to at most 255; no other entry changes, and the station's own number has none (R148, R149). A tag
byte is taken mod 16 (log 23); a spectator's word is held as sent (log 34). That a DEAL is the station's own when it equals
the frame in flight, and the number of the mark, are the model's readings (log 6, log 15). -/
def Obligations.DealOpensCircleRound : Prop :=
  (∀ (s : State) (precedence : Byte) (l : BitVec 3) (identity : BitVec 16) (word tag count : Byte),
    s.hearing = true → s.round.state = .idle →
    let own := s.isOwn (dealOf precedence l identity word tag count)
    let u := (s.heardPart (dealOf precedence l identity word tag count) l).countDeal l.toNat
    let facts (state : RoundState) (marked : Option Nat) (marks : Nat) : Round := {
      state := state, kind := some .circle, word := some word.toNat, tag := some (tag.toNat % 16), soloTimer := .stopped,
      circleTimer := .running 45, hints := 0, nextRepeat := .word, marked := marked, marks := marks, assists := 0,
      misses := 0, deal := none, lastTag := tag.toNat % 16 }
    let joins := u.link.state = .clear ∧ s.words.state = .ready ∧ identity = s.words.identity ∧
      (∃ r ∈ s.wordAt word.toNat, r.usable = true ∧ r.letters.length = count.toNat) ∧ s.excluded word.toNat = false
    (own = false → s.setup.circle = true → s.goingToDoze = false → s.freeToSpeak → joins →
      ∀ r, s.wordAt word.toNat = some r →
      exec (.dealFrame precedence l identity word tag count) s = .next { u with
        round := facts .circleOpening (some s.round.marks) (s.round.marks + 1)
        attempt := { target := some word.toNat, landed := [], pending := [] }
        judge := { s.judge with rows := [rowZero r.letters.length] }
        voiceA := s.speaking .A (s.remark .round 2 53 false) [s.remark .round 2 r.sayPhrase true]
        port := s.portAsked (.voice .A) (.phraseDirectory 53) }) ∧
    (own = false → s.setup.circle = true → s.goingToDoze = false → s.freeToSpeak → ¬ joins →
      exec (.dealFrame precedence l identity word tag count) s = .next (({ u with
        round := facts .circleSpectator none s.round.marks
        attempt := { target := none, landed := [], pending := [] }
        judge := { s.judge with rows := [] } } : State).saying .round 2 63 [])) ∧
    (own = true → s.portSettled →
      exec (.dealFrame precedence l identity word tag count) s =
        .next { u with round := { s.round with lastTag := tag.toNat % 16 } })) ∧
  (∀ (s : State) (f : Frame) (l : BitVec 3), s.roster.length = 8 →
    let u := (s.heardPart f l).countDeal l.toNat
    (l = s.laptop → u.roster = s.roster) ∧
    (l ≠ s.laptop →
      (∀ e, rosterAt s.roster l.toNat = some e →
        u.roster = s.roster.set l.toNat (some { e with age := 0, dealt := min 255 (e.dealt + 1) })) ∧
      (rosterAt s.roster l.toNat = none →
        u.roster = s.roster.set l.toNat (some { identity := none, age := 0, placed := 0, onLetters := 0, dealt := 1 }))))

/-- A DEAL heard while dealing decides the deal: the station's own posts DEAL (DEALT), another's removes the own DEAL entry
and posts DEAL (OUTDEALT) with its tag and word; both open the round. In any other state, and in IDLE with circle OFF or
going to doze, a DEAL changes the last tag and nothing else of the Round Controller (R152, R156, R157). A tag byte is taken
mod 16 (log 23). That a DEAL is the station's own when it equals the frame in flight is the model's reading (log 6). -/
def Obligations.DealDecidesDealing : Prop :=
  ∀ (s : State) (precedence : Byte) (l : BitVec 3) (identity : BitVec 16) (word tag count : Byte), s.hearing = true →
    let own := s.isOwn (dealOf precedence l identity word tag count)
    let u := (s.heardPart (dealOf precedence l identity word tag count) l).countDeal l.toNat
    let noted : State := { u with round := { s.round with lastTag := tag.toNat % 16 } }
    (∀ d, s.round.deal = some d → s.round.state = .circleDealing → own = true →
      exec (.dealFrame precedence l identity word tag count) s =
        .next ((noted.post (.deal .dealt d.tag d.word)).openCircle identity word.toNat (tag.toNat % 16) count.toNat).grant) ∧
    (s.round.state = .circleDealing → own = false →
      exec (.dealFrame precedence l identity word tag count) s =
        .next ((({ noted with link := { u.link with queue := u.link.queue.filter (fun e => e.kind != .deal) } } : State).post
          (.deal .outdealt (tag.toNat % 16) word.toNat)).openCircle identity word.toNat (tag.toNat % 16) count.toNat).grant) ∧
    (s.portSettled → (s.round.state ≠ .idle ∧ s.round.state ≠ .circleDealing) ∨
        (s.round.state = .idle ∧ s.setup.circle = false) ∨
        (s.round.state = .idle ∧ s.link.inFlight = none ∧ ∃ r ∈ s.answer, r.code = 14 ∧ r.outcome = .done) →
      exec (.dealFrame precedence l identity word tag count) s = .next noted)

/-- The station's own LETTER, heard good at the next position, lands its first pending letter: no row is pushed, the miss
count becomes 0, the circle timer runs anew, and the letter is echoed with the verdict of the row pushed when it was keyed
(R35, R40, R42, R162, R163). That a frame is the station's own when it equals the frame in flight is the model's reading (log
6). -/
def Obligations.OwnLetterLands : Prop :=
  ∀ (s : State), ∀ t, s.round.tag = some t → ∀ precedence tag position letter check : Byte,
    s.hearing = true → s.freeToSpeak → s.round.state = .circlePlayer → tag.toNat = t →
    1 ≤ letter.toNat → letter.toNat ≤ 26 → position.toNat = s.attempt.landed.length + 1 → position.toNat ≤ 20 →
    s.isOwn (letterOf precedence s.laptop tag position letter check) = true →
    ∀ x, s.attempt.pending.head? = some x → ∀ row, s.judge.row (s.attempt.landed.length + 1) = some row →
    exec (.letterFrame precedence s.laptop tag position letter check) s = .next
      (({ s.heardPart (letterOf precedence s.laptop tag position letter check) s.laptop with
        attempt := { s.attempt with landed := s.attempt.landed ++ [x], pending := s.attempt.pending.tail }
        round := { s.round with misses := 0, circleTimer := .running 45 } } : State).saying .own 1
          (if s.setup.letterVoice = .name then x else x + 26)
          (if s.setup.style = .coached ∧ row.verdict s.setup.closeLimit = .off then [60] else []))

/-- A peer's letter at the next position with the right prefix check lands at a player, in CIRCLE_OPENING and in
CIRCLE_PLAYER: own LETTER and CLOSE entries and pending letters are removed with their rows, the letter is pushed and landed,
the miss count becomes 0, the circle timer runs anew, the letter is echoed at the sender's pitch on voice B, and the sender's
tallies rise, its ON letters when the verdict is ON; a player that lost a queued LETTER first hears "too late", and one that
lost its CLOSE "one more letter" (R36, R40, R44, R151, R159, R162, R164). At a spectator a letter in order lands unjudged,
sets the miss count to 0, is echoed at the sender's pitch, and raises the sender's letters placed but not its ON letters
(R39, R44, R151, R165). A frame with the station's own laptop number that is not the own frame in flight, or that finds no
pending letter, lands as another's, echoed at the own laptop number, without a tally (R162, R164). That "too late" and the
echo are separate groups, and that a frame is the station's own when it equals the frame in flight, are the model's readings
(log 16, log 6). -/
def Obligations.PeerLettersLand : Prop :=
  (∀ (s : State), ∀ t, s.round.tag = some t → ∀ (l : BitVec 3) (precedence tag position letter check : Byte),
    s.hearing = true → s.portSettled → s.setup.voiceMode = .split → s.voiceFree .B →
    s.round.state = .circleOpening ∨ s.round.state = .circlePlayer →
    tag.toNat = t → 1 ≤ letter.toNat → letter.toNat ≤ 26 → position.toNat = s.attempt.landed.length + 1 →
    position.toNat ≤ 20 →
    s.isOwn (letterOf precedence l tag position letter check) = false ∨ s.attempt.pending = [] →
    check.toNat = prefixCheck (s.attempt.landed ++ [letter.toNat]) →
    let u := s.heardPart (letterOf precedence l tag position letter check) l
    let base := popRows s.attempt.pending.length s.judge.rows
    let row := pushedRow s.judge.pairs s.targetLetters base letter.toNat
    let landed : State := { u with
      link := { u.link with queue := withoutRoundFrames u.link.queue }
      judge := { s.judge with rows := row :: base }
      attempt := { s.attempt with landed := s.attempt.landed ++ [letter.toNat], pending := [] }
      round := { s.round with misses := 0, circleTimer := .running 45 }
      roster := if l = s.laptop then u.roster else u.roster.modify l.toNat (Option.map (fun e => { e with
        placed := min 255 (e.placed + 1)
        onLetters := if row.frontier = 0 then min 255 (e.onLetters + 1) else e.onLetters })) }
    let phrase := if s.setup.letterVoice = .name then letter.toNat else letter.toNat + 26
    (u.hasEntry .letter = false → u.hasEntry .close = false →
      exec (.letterFrame precedence l tag position letter check) s = .next (landed.echoing l.toNat phrase)) ∧
    (u.hasEntry .letter = true → u.hasEntry .close = false → s.voiceFree .A →
      exec (.letterFrame precedence l tag position letter check) s = .next
        ((landed.saying .round 2 58 []).echoing l.toNat phrase)) ∧
    (u.hasEntry .letter = false → u.hasEntry .close = true → s.voiceFree .A →
      exec (.letterFrame precedence l tag position letter check) s = .next
        ((landed.saying .round 2 67 []).echoing l.toNat phrase)) ∧
    (u.hasEntry .letter = true → u.hasEntry .close = true → s.voiceFree .A →
      exec (.letterFrame precedence l tag position letter check) s = .next
        ((landed.saying .round 2 58 [67]).echoing l.toNat phrase))) ∧
  (∀ (s : State), ∀ t, s.round.tag = some t → ∀ (l : BitVec 3) (precedence tag position letter check : Byte),
    s.hearing = true → s.portSettled → s.setup.voiceMode = .split → s.voiceFree .B → s.round.state = .circleSpectator →
    tag.toNat = t → s.attempt.pending = [] → 1 ≤ letter.toNat → letter.toNat ≤ 26 →
    position.toNat = s.attempt.landed.length + 1 → position.toNat ≤ 20 →
    check.toNat = prefixCheck (s.attempt.landed ++ [letter.toNat]) →
    let u := s.heardPart (letterOf precedence l tag position letter check) l
    exec (.letterFrame precedence l tag position letter check) s = .next
      (({ u with
        attempt := { s.attempt with landed := s.attempt.landed ++ [letter.toNat] }
        round := { s.round with misses := 0, circleTimer := .running 45 }
        roster := if l = s.laptop then u.roster
          else u.roster.modify l.toNat (Option.map (fun e => { e with placed := min 255 (e.placed + 1) })) } : State).echoing l.toNat
          (if s.setup.letterVoice = .name then letter.toNat else letter.toNat + 26)))

/-- A LETTER is ignored outside an open circle round, at a lost station, under another tag, at a position or with a letter
out of range, and at a position already landed; one ahead of the next position, or at it with a wrong prefix check, loses the
word: a player's frames, pending letters and target go, the landed letters stay, and the station, lost, says so (R38, R162,
R166). The miss count at the removal of pending letters is the model's reading (log 33). -/
def Obligations.LetterIgnoredOrLost : Prop :=
  ∀ (s : State) (l : BitVec 3) (precedence tag position letter check : Byte), s.hearing = true →
    let f := letterOf precedence l tag position letter check
    let u := s.heardPart f l
    let n := s.attempt.landed.length
    (s.portSettled → s.round.state.circleOpen = false ∨ s.round.state = .circleLost ∨ s.round.tag ≠ some tag.toNat ∨
        position.toNat = 0 ∨ 20 < position.toNat ∨ letter.toNat = 0 ∨ 26 < letter.toNat ∨ position.toNat ≤ n →
      exec (.letterFrame precedence l tag position letter check) s = .next u) ∧
    (s.freeToSpeak → s.round.tag = some tag.toNat → 1 ≤ letter.toNat → letter.toNat ≤ 26 → position.toNat ≤ 20 →
      n + 1 < position.toNat ∨ (position.toNat = n + 1 ∧ s.isOwn f = false ∧
        check.toNat ≠ prefixCheck (s.attempt.landed ++ [letter.toNat])) →
      (s.round.state = .circleSpectator →
        exec (.letterFrame precedence l tag position letter check) s = .next
          (({ u with round := { s.round with state := .circleLost } } : State).saying .round 2 71 [])) ∧
      (s.round.state = .circleOpening ∨ s.round.state = .circlePlayer →
        exec (.letterFrame precedence l tag position letter check) s = .next
          (({ u with
            link := { u.link with queue := withoutRoundFrames u.link.queue }
            round := { s.round with
              state := .circleLost, misses := if s.attempt.pending = [] then s.round.misses else 0 }
            attempt := { s.attempt with target := none, pending := [] }
            judge := { s.judge with rows := [] } } : State).saying .round 2 71 [])))

/-- A CLOSE under the round's tag with the landed count grades a player whose letters give its check, in IDLE: pending
letters are removed first, then its RESULT record and its speech are made, which for CLOSE and WRONG spells the word back, or
goes on without the spelling when no slot is free; no entry carries a mark. It ends the round with "round over" and no record
at a spectator, at a lost station and at a player whose letters give another check; a CLOSE of another count, another tag or
outside a round is ignored (R37, R76, R96, R167, R168). Where letters are pending, the rows are those the letters build on
the target, as RowsFollowAttemptAtEveryStep keeps them. The miss count at the removal of pending letters is the model's
reading (log 33), the order of the grade's speech and record too (log 22), and the round word and tag none in IDLE (log 23).
That the spelling is composed before the group's first entry is offered is the model's choice (log 35). -/
def Obligations.CloseEndsCircleRound : Prop :=
  ∀ (s : State) (l : BitVec 3) (precedence tag count check : Byte), s.hearing = true →
    let u := s.heardPart (closeOf precedence l tag count check) l
    let n := s.attempt.landed.length
    let player := s.round.state = .circleOpening ∨ s.round.state = .circlePlayer
    let closed (w : State) : State := { w with
      link := { u.link with queue := withoutRoundFrames u.link.queue }
      round := { s.round.closed with misses := if s.attempt.pending = [] then s.round.misses else 0 }
      attempt := Attempt.cleared, judge := { s.judge with rows := [] } }
    (s.portSettled → s.round.state.circleOpen = false ∨ s.round.tag ≠ some tag.toNat ∨ count.toNat = 0 ∨ 20 < count.toNat ∨
        (s.round.state ≠ .circleLost ∧ count.toNat ≠ n) →
      exec (.closeFrame precedence l tag count check) s = .next u) ∧
    (s.freeToSpeak → s.round.tag = some tag.toNat → 1 ≤ count.toNat → count.toNat ≤ 20 →
      (s.round.state = .circleLost ∨ (s.round.state = .circleSpectator ∧ count.toNat = n) ∨
          (player ∧ count.toNat = n ∧ check.toNat ≠ prefixCheck s.attempt.landed) →
        exec (.closeFrame precedence l tag count check) s = .next ((closed u).saying .round 2 64 [])) ∧
      (player → count.toNat = n → check.toNat = prefixCheck s.attempt.landed →
        s.attempt.pending = [] ∨ s.rowsFollowAttempt →
        let first := if s.grade = .close then 55 else 56
        let graded := closed (u.post (.result .circle (s.round.word.getD 0) s.grade s.score n s.round.assists))
        (s.grade = .perfect →
          exec (.closeFrame precedence l tag count check) s = .next (graded.saying .round 2 54 [])) ∧
        (∀ x, (s.compose s.targetLetters).2 = some x → s.grade = .close ∨ s.grade = .wrong →
          exec (.closeFrame precedence l tag count check) s = .next { graded with
            store := (s.compose s.targetLetters).1.store
            voiceA := s.speaking .A (s.remark .round 2 first false)
              [s.remark .round 2 57 false,
               { source := .round, priority := 2, start := .slot x.head, pitch := s.setup.ownPitch, tag := 0, markNo := none },
               s.remark .round 2 s.sayPhrase false]
            port := s.portAsked (.voice .A) (.phraseDirectory first) }) ∧
        ((s.compose s.targetLetters).2 = none → s.grade = .close ∨ s.grade = .wrong →
          exec (.closeFrame precedence l tag count check) s = .next
            (graded.saying .round 2 first [57, s.sayPhrase]))))

/-! ## The Judge -/

/-- Every cell of the row stack lies between 0 and 40; cell j of row i is at most 2 × max(i, j) and at least 2 × |i − j|; it
is 0 exactly when j is i and the first i letters of the attempt are the first i of the target (R27). The stack here is the
one that the attempt built on a target of at most 16 letters (R24, R20). -/
def Obligations.CellsBounded : Prop :=
  ∀ s : State, s.rowsFollowAttempt → s.attemptBounded → s.targetLetters.length ≤ 16 →
    ∀ (i j : Nat) (row : Row), s.judge.row i = some row → j ≤ s.targetLetters.length →
      row.cell j ≤ 40 ∧ row.cell j ≤ 2 * max i j ∧ 2 * (i - j) ≤ row.cell j ∧ 2 * (j - i) ≤ row.cell j ∧
      (row.cell j = 0 ↔ j = i ∧ s.attempt.letters.take i = s.targetLetters.take i)

/-- The final score is cell m of row Rn, n the landed count, wherever that row stands in the stack; it lies within 0..40 and
is 0 exactly when the landed letters are the target letter for letter (R46). -/
def Obligations.ScoreIsDistance : Prop :=
  ∀ s : State, s.rowsFollowAttempt → s.attemptBounded → s.attempt.target.isSome = true → s.targetLetters.length ≤ 16 →
    (∃ row : Row, s.judge.row s.attempt.landed.length = some row ∧ s.score = row.cell s.targetLetters.length) ∧
    s.score ≤ 40 ∧ (s.score = 0 ↔ s.attempt.landed = s.targetLetters)

/-- A verdict is ON exactly when the attempt with the letter is the beginning of the target, NEAR up to the close limit, OFF
above it; the lead column is the first cell that holds the frontier, and the hint letter stands after it; the grade follows
landed count, score, assists and close limit (R28, R46, R47, R48). The rows are those that letters build on a target. -/
def Obligations.VerdictHintAndGrade : Prop :=
  (∀ (table : List (Nat × Nat)) (t letters : List Nat) (x limit : Nat), 1 ≤ limit →
    let row := pushedRow table t (builtRows table t letters) x
    (row.verdict limit = .on ↔ (letters ++ [x]).isPrefixOf t = true) ∧
    (row.verdict limit = .near ↔ 1 ≤ row.frontier ∧ row.frontier ≤ limit) ∧
    (row.verdict limit = .off ↔ limit < row.frontier) ∧
    row.lead ≤ t.length ∧ row.cell row.lead = row.frontier ∧ (∀ j : Nat, j ≤ t.length → row.frontier ≤ row.cell j) ∧
    (∀ j : Nat, j < row.lead → row.frontier < row.cell j)) ∧
  (∀ s : State, ∀ row, s.judge.rows.head? = some row →
    s.hintLetter = s.targetLetters[row.lead]?) ∧
  (∀ landed score assists limit : Nat,
    (gradeOf landed score assists limit = .abandoned ↔ landed = 0) ∧
    (gradeOf landed score assists limit = .perfect ↔ 1 ≤ landed ∧ score = 0 ∧ assists = 0) ∧
    (gradeOf landed score assists limit = .close ↔
      1 ≤ landed ∧ ((score = 0 ∧ 1 ≤ assists) ∨ (1 ≤ score ∧ score ≤ limit))) ∧
    (gradeOf landed score assists limit = .wrong ↔ 1 ≤ landed ∧ 1 ≤ score ∧ limit < score))

/-! ## What every step keeps -/

/-- All the invariants below hold in the state right after reset, with any laptop number. The laptop number before a RESET
command is the model's choice (log 10); here it is any. -/
def Obligations.InvariantsHoldAtReset : Prop :=
  ∀ l : BitVec 3, let s := State.resetWith l
    s.countsInRange ∧ s.outputInRange ∧ s.setupInRange ∧ s.pairsFormed ∧ s.windowsInRange ∧ s.progressInRange ∧
    s.withinCapacity ∧ s.scannerFormed ∧ s.transmitLimited ∧ s.rosterFormed ∧ s.noOwnEntry ∧
    s.quietVoicesEmpty ∧ s.stacksOrdered ∧ s.oneRequestEach ∧ s.waitingInOrder ∧ s.portSettled ∧
    s.rowsFollowAttempt ∧ s.attemptBounded ∧ s.tableFollowsState ∧ s.loadFollowsPhase ∧ s.loadsOutsideRounds ∧
    s.loaderTransferFits ∧ s.marksNumbered ∧
    s.factsFollowState ∧ s.dozeIsQuiet ∧ s.goesToDozeIdle

/-- Every step keeps the counts, the speaker's sample, the setup values, the confusable-pair table, the windows and the
progress entries in their ranges, from any state in which they are (R13, R22, R45, R44, R72, R112, R123, R124, R134, R137,
R173). -/
def Obligations.RangesKeptByEveryStep : Prop :=
  ∀ s t : State, step s = .next t →
    (s.countsInRange → t.countsInRange) ∧ (s.outputInRange → t.outputInRange) ∧ (s.setupInRange → t.setupInRange) ∧
    (s.pairsFormed → t.pairsFormed) ∧ (s.windowsInRange → t.windowsInRange) ∧ (s.progressInRange → t.progressInRange)

/-- Every step keeps the capacities of the Key Queue, the Report Queue, the speech queues, the resume stacks and the transmit
queue, the 64 keys with run counts 0..2, the Roster's eight places with ages below 3, and no entry for the own laptop number
(R50, R54, R103, R115, R140, R148, R150, R183). -/
def Obligations.CapacitiesKeptByEveryStep : Prop :=
  ∀ s t : State, step s = .next t →
    (s.withinCapacity → t.withinCapacity) ∧ (s.scannerFormed → t.scannerFormed) ∧
    (s.transmitLimited → t.transmitLimited) ∧ (s.rosterFormed → t.rosterFormed) ∧ (s.noOwnEntry → t.noOwnEntry)

/-- Every step keeps a QUIET voice empty and the resume stacks in priority order below their current utterances; and it keeps
one request for each requester at the Memory Port, the waiting ones in grant order and none waiting at a free port (R98,
R103, R115). It keeps the number of the next mark above every mark that the voices and the round hold, so that no new mark is
taken for an old one (R67, R68, log 15). -/
def Obligations.VoicesAndPortKeptByEveryStep : Prop :=
  ∀ s t : State, step s = .next t →
    (s.quietVoicesEmpty → s.stacksOrdered → t.quietVoicesEmpty ∧ t.stacksOrdered) ∧
    (s.oneRequestEach → s.waitingInOrder → s.portSettled → t.oneRequestEach ∧ t.waitingInOrder ∧ t.portSettled) ∧
    (s.marksNumbered → t.marksNumbered)

/-- Every step keeps the row stack the one that the landed and pending letters build on the target, a target held in the solo
states and by a player alone, the attempt within 20 letters and 3 pending, and the Word Table as its state says; so the rows
always judge the spelling that is there (R2, R3, R6, R20, R21, R24, R30). It keeps every cartridge transfer at the Memory
Port that is not thrown away the one that the phase of the load in flight asks for (R4, R5, R7). That each requester has one
request, a premise here, is kept as VoicesAndPortKeptByEveryStep says (R98). -/
def Obligations.RowsFollowAttemptAtEveryStep : Prop :=
  ∀ s t : State, step s = .next t →
    s.rowsFollowAttempt → s.attemptBounded → s.tableFollowsState → s.loadFollowsPhase → s.loadsOutsideRounds →
    s.oneRequestEach → s.loaderTransferFits →
    t.rowsFollowAttempt ∧ t.attemptBounded ∧ t.tableFollowsState ∧ t.loadFollowsPhase ∧ t.loadsOutsideRounds ∧
    t.loaderTransferFits

/-- Every step keeps the round facts in accord with the Round Controller's state, and keeps doze quiet: the receiver is OFF
exactly in doze and the settle, and then nothing plays, loads, speaks or waits to be sent (R64, R69, R127, R145, R146, R153,
R182). -/
def Obligations.FactsAndDozeKeptByEveryStep : Prop :=
  ∀ s t : State, step s = .next t →
    (s.factsFollowState → t.factsFollowState) ∧
    (s.dozeIsQuiet → s.goesToDozeIdle → t.dozeIsQuiet ∧ t.goesToDozeIdle)
end

