-- ==== Sys2Proof/Laws/State.lean ====
section
/-! SUPPORT. One lemma for each field and each update of State, true by rfl, so that no proof unfolds an update. -/

namespace Sys2Proof.Machine

variable (s : State)

@[simp] theorem State.setPending_pending (x : List Instr) : (s.setPending x).pending = x := rfl
@[simp] theorem State.setPending_laptop (x : List Instr) : (s.setPending x).laptop = s.laptop := rfl
@[simp] theorem State.setPending_power (x : List Instr) : (s.setPending x).power = s.power := rfl
@[simp] theorem State.setPending_scanner (x : List Instr) : (s.setPending x).scanner = s.scanner := rfl
@[simp] theorem State.setPending_words (x : List Instr) : (s.setPending x).words = s.words := rfl
@[simp] theorem State.setPending_loader (x : List Instr) : (s.setPending x).loader = s.loader := rfl
@[simp] theorem State.setPending_progress (x : List Instr) : (s.setPending x).progress = s.progress := rfl
@[simp] theorem State.setPending_previous (x : List Instr) : (s.setPending x).previous = s.previous := rfl
@[simp] theorem State.setPending_windows (x : List Instr) : (s.setPending x).windows = s.windows := rfl
@[simp] theorem State.setPending_setup (x : List Instr) : (s.setPending x).setup = s.setup := rfl
@[simp] theorem State.setPending_staged (x : List Instr) : (s.setPending x).staged = s.staged := rfl
@[simp] theorem State.setPending_attempt (x : List Instr) : (s.setPending x).attempt = s.attempt := rfl
@[simp] theorem State.setPending_judge (x : List Instr) : (s.setPending x).judge = s.judge := rfl
@[simp] theorem State.setPending_round (x : List Instr) : (s.setPending x).round = s.round := rfl
@[simp] theorem State.setPending_store (x : List Instr) : (s.setPending x).store = s.store := rfl
@[simp] theorem State.setPending_voiceA (x : List Instr) : (s.setPending x).voiceA = s.voiceA := rfl
@[simp] theorem State.setPending_voiceB (x : List Instr) : (s.setPending x).voiceB = s.voiceB := rfl
@[simp] theorem State.setPending_underruns (x : List Instr) : (s.setPending x).underruns = s.underruns := rfl
@[simp] theorem State.setPending_port (x : List Instr) : (s.setPending x).port = s.port := rfl
@[simp] theorem State.setPending_mixer (x : List Instr) : (s.setPending x).mixer = s.mixer := rfl
@[simp] theorem State.setPending_link (x : List Instr) : (s.setPending x).link = s.link := rfl
@[simp] theorem State.setPending_roster (x : List Instr) : (s.setPending x).roster = s.roster := rfl
@[simp] theorem State.setPending_answer (x : List Instr) : (s.setPending x).answer = s.answer := rfl
@[simp] theorem State.setPending_flags (x : List Instr) : (s.setPending x).flags = s.flags := rfl
@[simp] theorem State.setPending_reports (x : List Instr) : (s.setPending x).reports = s.reports := rfl

@[simp] theorem State.setLaptop_pending (x : BitVec 3) : (s.setLaptop x).pending = s.pending := rfl
@[simp] theorem State.setLaptop_laptop (x : BitVec 3) : (s.setLaptop x).laptop = x := rfl
@[simp] theorem State.setLaptop_power (x : BitVec 3) : (s.setLaptop x).power = s.power := rfl
@[simp] theorem State.setLaptop_scanner (x : BitVec 3) : (s.setLaptop x).scanner = s.scanner := rfl
@[simp] theorem State.setLaptop_words (x : BitVec 3) : (s.setLaptop x).words = s.words := rfl
@[simp] theorem State.setLaptop_loader (x : BitVec 3) : (s.setLaptop x).loader = s.loader := rfl
@[simp] theorem State.setLaptop_progress (x : BitVec 3) : (s.setLaptop x).progress = s.progress := rfl
@[simp] theorem State.setLaptop_previous (x : BitVec 3) : (s.setLaptop x).previous = s.previous := rfl
@[simp] theorem State.setLaptop_windows (x : BitVec 3) : (s.setLaptop x).windows = s.windows := rfl
@[simp] theorem State.setLaptop_setup (x : BitVec 3) : (s.setLaptop x).setup = s.setup := rfl
@[simp] theorem State.setLaptop_staged (x : BitVec 3) : (s.setLaptop x).staged = s.staged := rfl
@[simp] theorem State.setLaptop_attempt (x : BitVec 3) : (s.setLaptop x).attempt = s.attempt := rfl
@[simp] theorem State.setLaptop_judge (x : BitVec 3) : (s.setLaptop x).judge = s.judge := rfl
@[simp] theorem State.setLaptop_round (x : BitVec 3) : (s.setLaptop x).round = s.round := rfl
@[simp] theorem State.setLaptop_store (x : BitVec 3) : (s.setLaptop x).store = s.store := rfl
@[simp] theorem State.setLaptop_voiceA (x : BitVec 3) : (s.setLaptop x).voiceA = s.voiceA := rfl
@[simp] theorem State.setLaptop_voiceB (x : BitVec 3) : (s.setLaptop x).voiceB = s.voiceB := rfl
@[simp] theorem State.setLaptop_underruns (x : BitVec 3) : (s.setLaptop x).underruns = s.underruns := rfl
@[simp] theorem State.setLaptop_port (x : BitVec 3) : (s.setLaptop x).port = s.port := rfl
@[simp] theorem State.setLaptop_mixer (x : BitVec 3) : (s.setLaptop x).mixer = s.mixer := rfl
@[simp] theorem State.setLaptop_link (x : BitVec 3) : (s.setLaptop x).link = s.link := rfl
@[simp] theorem State.setLaptop_roster (x : BitVec 3) : (s.setLaptop x).roster = s.roster := rfl
@[simp] theorem State.setLaptop_answer (x : BitVec 3) : (s.setLaptop x).answer = s.answer := rfl
@[simp] theorem State.setLaptop_flags (x : BitVec 3) : (s.setLaptop x).flags = s.flags := rfl
@[simp] theorem State.setLaptop_reports (x : BitVec 3) : (s.setLaptop x).reports = s.reports := rfl

@[simp] theorem State.setPower_pending (x : Power) : (s.setPower x).pending = s.pending := rfl
@[simp] theorem State.setPower_laptop (x : Power) : (s.setPower x).laptop = s.laptop := rfl
@[simp] theorem State.setPower_power (x : Power) : (s.setPower x).power = x := rfl
@[simp] theorem State.setPower_scanner (x : Power) : (s.setPower x).scanner = s.scanner := rfl
@[simp] theorem State.setPower_words (x : Power) : (s.setPower x).words = s.words := rfl
@[simp] theorem State.setPower_loader (x : Power) : (s.setPower x).loader = s.loader := rfl
@[simp] theorem State.setPower_progress (x : Power) : (s.setPower x).progress = s.progress := rfl
@[simp] theorem State.setPower_previous (x : Power) : (s.setPower x).previous = s.previous := rfl
@[simp] theorem State.setPower_windows (x : Power) : (s.setPower x).windows = s.windows := rfl
@[simp] theorem State.setPower_setup (x : Power) : (s.setPower x).setup = s.setup := rfl
@[simp] theorem State.setPower_staged (x : Power) : (s.setPower x).staged = s.staged := rfl
@[simp] theorem State.setPower_attempt (x : Power) : (s.setPower x).attempt = s.attempt := rfl
@[simp] theorem State.setPower_judge (x : Power) : (s.setPower x).judge = s.judge := rfl
@[simp] theorem State.setPower_round (x : Power) : (s.setPower x).round = s.round := rfl
@[simp] theorem State.setPower_store (x : Power) : (s.setPower x).store = s.store := rfl
@[simp] theorem State.setPower_voiceA (x : Power) : (s.setPower x).voiceA = s.voiceA := rfl
@[simp] theorem State.setPower_voiceB (x : Power) : (s.setPower x).voiceB = s.voiceB := rfl
@[simp] theorem State.setPower_underruns (x : Power) : (s.setPower x).underruns = s.underruns := rfl
@[simp] theorem State.setPower_port (x : Power) : (s.setPower x).port = s.port := rfl
@[simp] theorem State.setPower_mixer (x : Power) : (s.setPower x).mixer = s.mixer := rfl
@[simp] theorem State.setPower_link (x : Power) : (s.setPower x).link = s.link := rfl
@[simp] theorem State.setPower_roster (x : Power) : (s.setPower x).roster = s.roster := rfl
@[simp] theorem State.setPower_answer (x : Power) : (s.setPower x).answer = s.answer := rfl
@[simp] theorem State.setPower_flags (x : Power) : (s.setPower x).flags = s.flags := rfl
@[simp] theorem State.setPower_reports (x : Power) : (s.setPower x).reports = s.reports := rfl

@[simp] theorem State.setScanner_pending (x : Scanner) : (s.setScanner x).pending = s.pending := rfl
@[simp] theorem State.setScanner_laptop (x : Scanner) : (s.setScanner x).laptop = s.laptop := rfl
@[simp] theorem State.setScanner_power (x : Scanner) : (s.setScanner x).power = s.power := rfl
@[simp] theorem State.setScanner_scanner (x : Scanner) : (s.setScanner x).scanner = x := rfl
@[simp] theorem State.setScanner_words (x : Scanner) : (s.setScanner x).words = s.words := rfl
@[simp] theorem State.setScanner_loader (x : Scanner) : (s.setScanner x).loader = s.loader := rfl
@[simp] theorem State.setScanner_progress (x : Scanner) : (s.setScanner x).progress = s.progress := rfl
@[simp] theorem State.setScanner_previous (x : Scanner) : (s.setScanner x).previous = s.previous := rfl
@[simp] theorem State.setScanner_windows (x : Scanner) : (s.setScanner x).windows = s.windows := rfl
@[simp] theorem State.setScanner_setup (x : Scanner) : (s.setScanner x).setup = s.setup := rfl
@[simp] theorem State.setScanner_staged (x : Scanner) : (s.setScanner x).staged = s.staged := rfl
@[simp] theorem State.setScanner_attempt (x : Scanner) : (s.setScanner x).attempt = s.attempt := rfl
@[simp] theorem State.setScanner_judge (x : Scanner) : (s.setScanner x).judge = s.judge := rfl
@[simp] theorem State.setScanner_round (x : Scanner) : (s.setScanner x).round = s.round := rfl
@[simp] theorem State.setScanner_store (x : Scanner) : (s.setScanner x).store = s.store := rfl
@[simp] theorem State.setScanner_voiceA (x : Scanner) : (s.setScanner x).voiceA = s.voiceA := rfl
@[simp] theorem State.setScanner_voiceB (x : Scanner) : (s.setScanner x).voiceB = s.voiceB := rfl
@[simp] theorem State.setScanner_underruns (x : Scanner) : (s.setScanner x).underruns = s.underruns := rfl
@[simp] theorem State.setScanner_port (x : Scanner) : (s.setScanner x).port = s.port := rfl
@[simp] theorem State.setScanner_mixer (x : Scanner) : (s.setScanner x).mixer = s.mixer := rfl
@[simp] theorem State.setScanner_link (x : Scanner) : (s.setScanner x).link = s.link := rfl
@[simp] theorem State.setScanner_roster (x : Scanner) : (s.setScanner x).roster = s.roster := rfl
@[simp] theorem State.setScanner_answer (x : Scanner) : (s.setScanner x).answer = s.answer := rfl
@[simp] theorem State.setScanner_flags (x : Scanner) : (s.setScanner x).flags = s.flags := rfl
@[simp] theorem State.setScanner_reports (x : Scanner) : (s.setScanner x).reports = s.reports := rfl

@[simp] theorem State.setWords_pending (x : WordTable) : (s.setWords x).pending = s.pending := rfl
@[simp] theorem State.setWords_laptop (x : WordTable) : (s.setWords x).laptop = s.laptop := rfl
@[simp] theorem State.setWords_power (x : WordTable) : (s.setWords x).power = s.power := rfl
@[simp] theorem State.setWords_scanner (x : WordTable) : (s.setWords x).scanner = s.scanner := rfl
@[simp] theorem State.setWords_words (x : WordTable) : (s.setWords x).words = x := rfl
@[simp] theorem State.setWords_loader (x : WordTable) : (s.setWords x).loader = s.loader := rfl
@[simp] theorem State.setWords_progress (x : WordTable) : (s.setWords x).progress = s.progress := rfl
@[simp] theorem State.setWords_previous (x : WordTable) : (s.setWords x).previous = s.previous := rfl
@[simp] theorem State.setWords_windows (x : WordTable) : (s.setWords x).windows = s.windows := rfl
@[simp] theorem State.setWords_setup (x : WordTable) : (s.setWords x).setup = s.setup := rfl
@[simp] theorem State.setWords_staged (x : WordTable) : (s.setWords x).staged = s.staged := rfl
@[simp] theorem State.setWords_attempt (x : WordTable) : (s.setWords x).attempt = s.attempt := rfl
@[simp] theorem State.setWords_judge (x : WordTable) : (s.setWords x).judge = s.judge := rfl
@[simp] theorem State.setWords_round (x : WordTable) : (s.setWords x).round = s.round := rfl
@[simp] theorem State.setWords_store (x : WordTable) : (s.setWords x).store = s.store := rfl
@[simp] theorem State.setWords_voiceA (x : WordTable) : (s.setWords x).voiceA = s.voiceA := rfl
@[simp] theorem State.setWords_voiceB (x : WordTable) : (s.setWords x).voiceB = s.voiceB := rfl
@[simp] theorem State.setWords_underruns (x : WordTable) : (s.setWords x).underruns = s.underruns := rfl
@[simp] theorem State.setWords_port (x : WordTable) : (s.setWords x).port = s.port := rfl
@[simp] theorem State.setWords_mixer (x : WordTable) : (s.setWords x).mixer = s.mixer := rfl
@[simp] theorem State.setWords_link (x : WordTable) : (s.setWords x).link = s.link := rfl
@[simp] theorem State.setWords_roster (x : WordTable) : (s.setWords x).roster = s.roster := rfl
@[simp] theorem State.setWords_answer (x : WordTable) : (s.setWords x).answer = s.answer := rfl
@[simp] theorem State.setWords_flags (x : WordTable) : (s.setWords x).flags = s.flags := rfl
@[simp] theorem State.setWords_reports (x : WordTable) : (s.setWords x).reports = s.reports := rfl

@[simp] theorem State.setLoader_pending (x : Option Load) : (s.setLoader x).pending = s.pending := rfl
@[simp] theorem State.setLoader_laptop (x : Option Load) : (s.setLoader x).laptop = s.laptop := rfl
@[simp] theorem State.setLoader_power (x : Option Load) : (s.setLoader x).power = s.power := rfl
@[simp] theorem State.setLoader_scanner (x : Option Load) : (s.setLoader x).scanner = s.scanner := rfl
@[simp] theorem State.setLoader_words (x : Option Load) : (s.setLoader x).words = s.words := rfl
@[simp] theorem State.setLoader_loader (x : Option Load) : (s.setLoader x).loader = x := rfl
@[simp] theorem State.setLoader_progress (x : Option Load) : (s.setLoader x).progress = s.progress := rfl
@[simp] theorem State.setLoader_previous (x : Option Load) : (s.setLoader x).previous = s.previous := rfl
@[simp] theorem State.setLoader_windows (x : Option Load) : (s.setLoader x).windows = s.windows := rfl
@[simp] theorem State.setLoader_setup (x : Option Load) : (s.setLoader x).setup = s.setup := rfl
@[simp] theorem State.setLoader_staged (x : Option Load) : (s.setLoader x).staged = s.staged := rfl
@[simp] theorem State.setLoader_attempt (x : Option Load) : (s.setLoader x).attempt = s.attempt := rfl
@[simp] theorem State.setLoader_judge (x : Option Load) : (s.setLoader x).judge = s.judge := rfl
@[simp] theorem State.setLoader_round (x : Option Load) : (s.setLoader x).round = s.round := rfl
@[simp] theorem State.setLoader_store (x : Option Load) : (s.setLoader x).store = s.store := rfl
@[simp] theorem State.setLoader_voiceA (x : Option Load) : (s.setLoader x).voiceA = s.voiceA := rfl
@[simp] theorem State.setLoader_voiceB (x : Option Load) : (s.setLoader x).voiceB = s.voiceB := rfl
@[simp] theorem State.setLoader_underruns (x : Option Load) : (s.setLoader x).underruns = s.underruns := rfl
@[simp] theorem State.setLoader_port (x : Option Load) : (s.setLoader x).port = s.port := rfl
@[simp] theorem State.setLoader_mixer (x : Option Load) : (s.setLoader x).mixer = s.mixer := rfl
@[simp] theorem State.setLoader_link (x : Option Load) : (s.setLoader x).link = s.link := rfl
@[simp] theorem State.setLoader_roster (x : Option Load) : (s.setLoader x).roster = s.roster := rfl
@[simp] theorem State.setLoader_answer (x : Option Load) : (s.setLoader x).answer = s.answer := rfl
@[simp] theorem State.setLoader_flags (x : Option Load) : (s.setLoader x).flags = s.flags := rfl
@[simp] theorem State.setLoader_reports (x : Option Load) : (s.setLoader x).reports = s.reports := rfl

@[simp] theorem State.setProgress_pending (x : List ProgressEntry) : (s.setProgress x).pending = s.pending := rfl
@[simp] theorem State.setProgress_laptop (x : List ProgressEntry) : (s.setProgress x).laptop = s.laptop := rfl
@[simp] theorem State.setProgress_power (x : List ProgressEntry) : (s.setProgress x).power = s.power := rfl
@[simp] theorem State.setProgress_scanner (x : List ProgressEntry) : (s.setProgress x).scanner = s.scanner := rfl
@[simp] theorem State.setProgress_words (x : List ProgressEntry) : (s.setProgress x).words = s.words := rfl
@[simp] theorem State.setProgress_loader (x : List ProgressEntry) : (s.setProgress x).loader = s.loader := rfl
@[simp] theorem State.setProgress_progress (x : List ProgressEntry) : (s.setProgress x).progress = x := rfl
@[simp] theorem State.setProgress_previous (x : List ProgressEntry) : (s.setProgress x).previous = s.previous := rfl
@[simp] theorem State.setProgress_windows (x : List ProgressEntry) : (s.setProgress x).windows = s.windows := rfl
@[simp] theorem State.setProgress_setup (x : List ProgressEntry) : (s.setProgress x).setup = s.setup := rfl
@[simp] theorem State.setProgress_staged (x : List ProgressEntry) : (s.setProgress x).staged = s.staged := rfl
@[simp] theorem State.setProgress_attempt (x : List ProgressEntry) : (s.setProgress x).attempt = s.attempt := rfl
@[simp] theorem State.setProgress_judge (x : List ProgressEntry) : (s.setProgress x).judge = s.judge := rfl
@[simp] theorem State.setProgress_round (x : List ProgressEntry) : (s.setProgress x).round = s.round := rfl
@[simp] theorem State.setProgress_store (x : List ProgressEntry) : (s.setProgress x).store = s.store := rfl
@[simp] theorem State.setProgress_voiceA (x : List ProgressEntry) : (s.setProgress x).voiceA = s.voiceA := rfl
@[simp] theorem State.setProgress_voiceB (x : List ProgressEntry) : (s.setProgress x).voiceB = s.voiceB := rfl
@[simp] theorem State.setProgress_underruns (x : List ProgressEntry) : (s.setProgress x).underruns = s.underruns := rfl
@[simp] theorem State.setProgress_port (x : List ProgressEntry) : (s.setProgress x).port = s.port := rfl
@[simp] theorem State.setProgress_mixer (x : List ProgressEntry) : (s.setProgress x).mixer = s.mixer := rfl
@[simp] theorem State.setProgress_link (x : List ProgressEntry) : (s.setProgress x).link = s.link := rfl
@[simp] theorem State.setProgress_roster (x : List ProgressEntry) : (s.setProgress x).roster = s.roster := rfl
@[simp] theorem State.setProgress_answer (x : List ProgressEntry) : (s.setProgress x).answer = s.answer := rfl
@[simp] theorem State.setProgress_flags (x : List ProgressEntry) : (s.setProgress x).flags = s.flags := rfl
@[simp] theorem State.setProgress_reports (x : List ProgressEntry) : (s.setProgress x).reports = s.reports := rfl

@[simp] theorem State.setPrevious_pending (x : Option Nat) : (s.setPrevious x).pending = s.pending := rfl
@[simp] theorem State.setPrevious_laptop (x : Option Nat) : (s.setPrevious x).laptop = s.laptop := rfl
@[simp] theorem State.setPrevious_power (x : Option Nat) : (s.setPrevious x).power = s.power := rfl
@[simp] theorem State.setPrevious_scanner (x : Option Nat) : (s.setPrevious x).scanner = s.scanner := rfl
@[simp] theorem State.setPrevious_words (x : Option Nat) : (s.setPrevious x).words = s.words := rfl
@[simp] theorem State.setPrevious_loader (x : Option Nat) : (s.setPrevious x).loader = s.loader := rfl
@[simp] theorem State.setPrevious_progress (x : Option Nat) : (s.setPrevious x).progress = s.progress := rfl
@[simp] theorem State.setPrevious_previous (x : Option Nat) : (s.setPrevious x).previous = x := rfl
@[simp] theorem State.setPrevious_windows (x : Option Nat) : (s.setPrevious x).windows = s.windows := rfl
@[simp] theorem State.setPrevious_setup (x : Option Nat) : (s.setPrevious x).setup = s.setup := rfl
@[simp] theorem State.setPrevious_staged (x : Option Nat) : (s.setPrevious x).staged = s.staged := rfl
@[simp] theorem State.setPrevious_attempt (x : Option Nat) : (s.setPrevious x).attempt = s.attempt := rfl
@[simp] theorem State.setPrevious_judge (x : Option Nat) : (s.setPrevious x).judge = s.judge := rfl
@[simp] theorem State.setPrevious_round (x : Option Nat) : (s.setPrevious x).round = s.round := rfl
@[simp] theorem State.setPrevious_store (x : Option Nat) : (s.setPrevious x).store = s.store := rfl
@[simp] theorem State.setPrevious_voiceA (x : Option Nat) : (s.setPrevious x).voiceA = s.voiceA := rfl
@[simp] theorem State.setPrevious_voiceB (x : Option Nat) : (s.setPrevious x).voiceB = s.voiceB := rfl
@[simp] theorem State.setPrevious_underruns (x : Option Nat) : (s.setPrevious x).underruns = s.underruns := rfl
@[simp] theorem State.setPrevious_port (x : Option Nat) : (s.setPrevious x).port = s.port := rfl
@[simp] theorem State.setPrevious_mixer (x : Option Nat) : (s.setPrevious x).mixer = s.mixer := rfl
@[simp] theorem State.setPrevious_link (x : Option Nat) : (s.setPrevious x).link = s.link := rfl
@[simp] theorem State.setPrevious_roster (x : Option Nat) : (s.setPrevious x).roster = s.roster := rfl
@[simp] theorem State.setPrevious_answer (x : Option Nat) : (s.setPrevious x).answer = s.answer := rfl
@[simp] theorem State.setPrevious_flags (x : Option Nat) : (s.setPrevious x).flags = s.flags := rfl
@[simp] theorem State.setPrevious_reports (x : Option Nat) : (s.setPrevious x).reports = s.reports := rfl

@[simp] theorem State.setWindows_pending (x : List Window) : (s.setWindows x).pending = s.pending := rfl
@[simp] theorem State.setWindows_laptop (x : List Window) : (s.setWindows x).laptop = s.laptop := rfl
@[simp] theorem State.setWindows_power (x : List Window) : (s.setWindows x).power = s.power := rfl
@[simp] theorem State.setWindows_scanner (x : List Window) : (s.setWindows x).scanner = s.scanner := rfl
@[simp] theorem State.setWindows_words (x : List Window) : (s.setWindows x).words = s.words := rfl
@[simp] theorem State.setWindows_loader (x : List Window) : (s.setWindows x).loader = s.loader := rfl
@[simp] theorem State.setWindows_progress (x : List Window) : (s.setWindows x).progress = s.progress := rfl
@[simp] theorem State.setWindows_previous (x : List Window) : (s.setWindows x).previous = s.previous := rfl
@[simp] theorem State.setWindows_windows (x : List Window) : (s.setWindows x).windows = x := rfl
@[simp] theorem State.setWindows_setup (x : List Window) : (s.setWindows x).setup = s.setup := rfl
@[simp] theorem State.setWindows_staged (x : List Window) : (s.setWindows x).staged = s.staged := rfl
@[simp] theorem State.setWindows_attempt (x : List Window) : (s.setWindows x).attempt = s.attempt := rfl
@[simp] theorem State.setWindows_judge (x : List Window) : (s.setWindows x).judge = s.judge := rfl
@[simp] theorem State.setWindows_round (x : List Window) : (s.setWindows x).round = s.round := rfl
@[simp] theorem State.setWindows_store (x : List Window) : (s.setWindows x).store = s.store := rfl
@[simp] theorem State.setWindows_voiceA (x : List Window) : (s.setWindows x).voiceA = s.voiceA := rfl
@[simp] theorem State.setWindows_voiceB (x : List Window) : (s.setWindows x).voiceB = s.voiceB := rfl
@[simp] theorem State.setWindows_underruns (x : List Window) : (s.setWindows x).underruns = s.underruns := rfl
@[simp] theorem State.setWindows_port (x : List Window) : (s.setWindows x).port = s.port := rfl
@[simp] theorem State.setWindows_mixer (x : List Window) : (s.setWindows x).mixer = s.mixer := rfl
@[simp] theorem State.setWindows_link (x : List Window) : (s.setWindows x).link = s.link := rfl
@[simp] theorem State.setWindows_roster (x : List Window) : (s.setWindows x).roster = s.roster := rfl
@[simp] theorem State.setWindows_answer (x : List Window) : (s.setWindows x).answer = s.answer := rfl
@[simp] theorem State.setWindows_flags (x : List Window) : (s.setWindows x).flags = s.flags := rfl
@[simp] theorem State.setWindows_reports (x : List Window) : (s.setWindows x).reports = s.reports := rfl

@[simp] theorem State.setSetup_pending (x : Setup) : (s.setSetup x).pending = s.pending := rfl
@[simp] theorem State.setSetup_laptop (x : Setup) : (s.setSetup x).laptop = s.laptop := rfl
@[simp] theorem State.setSetup_power (x : Setup) : (s.setSetup x).power = s.power := rfl
@[simp] theorem State.setSetup_scanner (x : Setup) : (s.setSetup x).scanner = s.scanner := rfl
@[simp] theorem State.setSetup_words (x : Setup) : (s.setSetup x).words = s.words := rfl
@[simp] theorem State.setSetup_loader (x : Setup) : (s.setSetup x).loader = s.loader := rfl
@[simp] theorem State.setSetup_progress (x : Setup) : (s.setSetup x).progress = s.progress := rfl
@[simp] theorem State.setSetup_previous (x : Setup) : (s.setSetup x).previous = s.previous := rfl
@[simp] theorem State.setSetup_windows (x : Setup) : (s.setSetup x).windows = s.windows := rfl
@[simp] theorem State.setSetup_setup (x : Setup) : (s.setSetup x).setup = x := rfl
@[simp] theorem State.setSetup_staged (x : Setup) : (s.setSetup x).staged = s.staged := rfl
@[simp] theorem State.setSetup_attempt (x : Setup) : (s.setSetup x).attempt = s.attempt := rfl
@[simp] theorem State.setSetup_judge (x : Setup) : (s.setSetup x).judge = s.judge := rfl
@[simp] theorem State.setSetup_round (x : Setup) : (s.setSetup x).round = s.round := rfl
@[simp] theorem State.setSetup_store (x : Setup) : (s.setSetup x).store = s.store := rfl
@[simp] theorem State.setSetup_voiceA (x : Setup) : (s.setSetup x).voiceA = s.voiceA := rfl
@[simp] theorem State.setSetup_voiceB (x : Setup) : (s.setSetup x).voiceB = s.voiceB := rfl
@[simp] theorem State.setSetup_underruns (x : Setup) : (s.setSetup x).underruns = s.underruns := rfl
@[simp] theorem State.setSetup_port (x : Setup) : (s.setSetup x).port = s.port := rfl
@[simp] theorem State.setSetup_mixer (x : Setup) : (s.setSetup x).mixer = s.mixer := rfl
@[simp] theorem State.setSetup_link (x : Setup) : (s.setSetup x).link = s.link := rfl
@[simp] theorem State.setSetup_roster (x : Setup) : (s.setSetup x).roster = s.roster := rfl
@[simp] theorem State.setSetup_answer (x : Setup) : (s.setSetup x).answer = s.answer := rfl
@[simp] theorem State.setSetup_flags (x : Setup) : (s.setSetup x).flags = s.flags := rfl
@[simp] theorem State.setSetup_reports (x : Setup) : (s.setSetup x).reports = s.reports := rfl

@[simp] theorem State.setStaged_pending (x : List (List (Nat × Nat))) : (s.setStaged x).pending = s.pending := rfl
@[simp] theorem State.setStaged_laptop (x : List (List (Nat × Nat))) : (s.setStaged x).laptop = s.laptop := rfl
@[simp] theorem State.setStaged_power (x : List (List (Nat × Nat))) : (s.setStaged x).power = s.power := rfl
@[simp] theorem State.setStaged_scanner (x : List (List (Nat × Nat))) : (s.setStaged x).scanner = s.scanner := rfl
@[simp] theorem State.setStaged_words (x : List (List (Nat × Nat))) : (s.setStaged x).words = s.words := rfl
@[simp] theorem State.setStaged_loader (x : List (List (Nat × Nat))) : (s.setStaged x).loader = s.loader := rfl
@[simp] theorem State.setStaged_progress (x : List (List (Nat × Nat))) : (s.setStaged x).progress = s.progress := rfl
@[simp] theorem State.setStaged_previous (x : List (List (Nat × Nat))) : (s.setStaged x).previous = s.previous := rfl
@[simp] theorem State.setStaged_windows (x : List (List (Nat × Nat))) : (s.setStaged x).windows = s.windows := rfl
@[simp] theorem State.setStaged_setup (x : List (List (Nat × Nat))) : (s.setStaged x).setup = s.setup := rfl
@[simp] theorem State.setStaged_staged (x : List (List (Nat × Nat))) : (s.setStaged x).staged = x := rfl
@[simp] theorem State.setStaged_attempt (x : List (List (Nat × Nat))) : (s.setStaged x).attempt = s.attempt := rfl
@[simp] theorem State.setStaged_judge (x : List (List (Nat × Nat))) : (s.setStaged x).judge = s.judge := rfl
@[simp] theorem State.setStaged_round (x : List (List (Nat × Nat))) : (s.setStaged x).round = s.round := rfl
@[simp] theorem State.setStaged_store (x : List (List (Nat × Nat))) : (s.setStaged x).store = s.store := rfl
@[simp] theorem State.setStaged_voiceA (x : List (List (Nat × Nat))) : (s.setStaged x).voiceA = s.voiceA := rfl
@[simp] theorem State.setStaged_voiceB (x : List (List (Nat × Nat))) : (s.setStaged x).voiceB = s.voiceB := rfl
@[simp] theorem State.setStaged_underruns (x : List (List (Nat × Nat))) : (s.setStaged x).underruns = s.underruns := rfl
@[simp] theorem State.setStaged_port (x : List (List (Nat × Nat))) : (s.setStaged x).port = s.port := rfl
@[simp] theorem State.setStaged_mixer (x : List (List (Nat × Nat))) : (s.setStaged x).mixer = s.mixer := rfl
@[simp] theorem State.setStaged_link (x : List (List (Nat × Nat))) : (s.setStaged x).link = s.link := rfl
@[simp] theorem State.setStaged_roster (x : List (List (Nat × Nat))) : (s.setStaged x).roster = s.roster := rfl
@[simp] theorem State.setStaged_answer (x : List (List (Nat × Nat))) : (s.setStaged x).answer = s.answer := rfl
@[simp] theorem State.setStaged_flags (x : List (List (Nat × Nat))) : (s.setStaged x).flags = s.flags := rfl
@[simp] theorem State.setStaged_reports (x : List (List (Nat × Nat))) : (s.setStaged x).reports = s.reports := rfl

@[simp] theorem State.setAttempt_pending (x : Attempt) : (s.setAttempt x).pending = s.pending := rfl
@[simp] theorem State.setAttempt_laptop (x : Attempt) : (s.setAttempt x).laptop = s.laptop := rfl
@[simp] theorem State.setAttempt_power (x : Attempt) : (s.setAttempt x).power = s.power := rfl
@[simp] theorem State.setAttempt_scanner (x : Attempt) : (s.setAttempt x).scanner = s.scanner := rfl
@[simp] theorem State.setAttempt_words (x : Attempt) : (s.setAttempt x).words = s.words := rfl
@[simp] theorem State.setAttempt_loader (x : Attempt) : (s.setAttempt x).loader = s.loader := rfl
@[simp] theorem State.setAttempt_progress (x : Attempt) : (s.setAttempt x).progress = s.progress := rfl
@[simp] theorem State.setAttempt_previous (x : Attempt) : (s.setAttempt x).previous = s.previous := rfl
@[simp] theorem State.setAttempt_windows (x : Attempt) : (s.setAttempt x).windows = s.windows := rfl
@[simp] theorem State.setAttempt_setup (x : Attempt) : (s.setAttempt x).setup = s.setup := rfl
@[simp] theorem State.setAttempt_staged (x : Attempt) : (s.setAttempt x).staged = s.staged := rfl
@[simp] theorem State.setAttempt_attempt (x : Attempt) : (s.setAttempt x).attempt = x := rfl
@[simp] theorem State.setAttempt_judge (x : Attempt) : (s.setAttempt x).judge = s.judge := rfl
@[simp] theorem State.setAttempt_round (x : Attempt) : (s.setAttempt x).round = s.round := rfl
@[simp] theorem State.setAttempt_store (x : Attempt) : (s.setAttempt x).store = s.store := rfl
@[simp] theorem State.setAttempt_voiceA (x : Attempt) : (s.setAttempt x).voiceA = s.voiceA := rfl
@[simp] theorem State.setAttempt_voiceB (x : Attempt) : (s.setAttempt x).voiceB = s.voiceB := rfl
@[simp] theorem State.setAttempt_underruns (x : Attempt) : (s.setAttempt x).underruns = s.underruns := rfl
@[simp] theorem State.setAttempt_port (x : Attempt) : (s.setAttempt x).port = s.port := rfl
@[simp] theorem State.setAttempt_mixer (x : Attempt) : (s.setAttempt x).mixer = s.mixer := rfl
@[simp] theorem State.setAttempt_link (x : Attempt) : (s.setAttempt x).link = s.link := rfl
@[simp] theorem State.setAttempt_roster (x : Attempt) : (s.setAttempt x).roster = s.roster := rfl
@[simp] theorem State.setAttempt_answer (x : Attempt) : (s.setAttempt x).answer = s.answer := rfl
@[simp] theorem State.setAttempt_flags (x : Attempt) : (s.setAttempt x).flags = s.flags := rfl
@[simp] theorem State.setAttempt_reports (x : Attempt) : (s.setAttempt x).reports = s.reports := rfl

@[simp] theorem State.setJudge_pending (x : Judge) : (s.setJudge x).pending = s.pending := rfl
@[simp] theorem State.setJudge_laptop (x : Judge) : (s.setJudge x).laptop = s.laptop := rfl
@[simp] theorem State.setJudge_power (x : Judge) : (s.setJudge x).power = s.power := rfl
@[simp] theorem State.setJudge_scanner (x : Judge) : (s.setJudge x).scanner = s.scanner := rfl
@[simp] theorem State.setJudge_words (x : Judge) : (s.setJudge x).words = s.words := rfl
@[simp] theorem State.setJudge_loader (x : Judge) : (s.setJudge x).loader = s.loader := rfl
@[simp] theorem State.setJudge_progress (x : Judge) : (s.setJudge x).progress = s.progress := rfl
@[simp] theorem State.setJudge_previous (x : Judge) : (s.setJudge x).previous = s.previous := rfl
@[simp] theorem State.setJudge_windows (x : Judge) : (s.setJudge x).windows = s.windows := rfl
@[simp] theorem State.setJudge_setup (x : Judge) : (s.setJudge x).setup = s.setup := rfl
@[simp] theorem State.setJudge_staged (x : Judge) : (s.setJudge x).staged = s.staged := rfl
@[simp] theorem State.setJudge_attempt (x : Judge) : (s.setJudge x).attempt = s.attempt := rfl
@[simp] theorem State.setJudge_judge (x : Judge) : (s.setJudge x).judge = x := rfl
@[simp] theorem State.setJudge_round (x : Judge) : (s.setJudge x).round = s.round := rfl
@[simp] theorem State.setJudge_store (x : Judge) : (s.setJudge x).store = s.store := rfl
@[simp] theorem State.setJudge_voiceA (x : Judge) : (s.setJudge x).voiceA = s.voiceA := rfl
@[simp] theorem State.setJudge_voiceB (x : Judge) : (s.setJudge x).voiceB = s.voiceB := rfl
@[simp] theorem State.setJudge_underruns (x : Judge) : (s.setJudge x).underruns = s.underruns := rfl
@[simp] theorem State.setJudge_port (x : Judge) : (s.setJudge x).port = s.port := rfl
@[simp] theorem State.setJudge_mixer (x : Judge) : (s.setJudge x).mixer = s.mixer := rfl
@[simp] theorem State.setJudge_link (x : Judge) : (s.setJudge x).link = s.link := rfl
@[simp] theorem State.setJudge_roster (x : Judge) : (s.setJudge x).roster = s.roster := rfl
@[simp] theorem State.setJudge_answer (x : Judge) : (s.setJudge x).answer = s.answer := rfl
@[simp] theorem State.setJudge_flags (x : Judge) : (s.setJudge x).flags = s.flags := rfl
@[simp] theorem State.setJudge_reports (x : Judge) : (s.setJudge x).reports = s.reports := rfl

@[simp] theorem State.setRound_pending (x : Round) : (s.setRound x).pending = s.pending := rfl
@[simp] theorem State.setRound_laptop (x : Round) : (s.setRound x).laptop = s.laptop := rfl
@[simp] theorem State.setRound_power (x : Round) : (s.setRound x).power = s.power := rfl
@[simp] theorem State.setRound_scanner (x : Round) : (s.setRound x).scanner = s.scanner := rfl
@[simp] theorem State.setRound_words (x : Round) : (s.setRound x).words = s.words := rfl
@[simp] theorem State.setRound_loader (x : Round) : (s.setRound x).loader = s.loader := rfl
@[simp] theorem State.setRound_progress (x : Round) : (s.setRound x).progress = s.progress := rfl
@[simp] theorem State.setRound_previous (x : Round) : (s.setRound x).previous = s.previous := rfl
@[simp] theorem State.setRound_windows (x : Round) : (s.setRound x).windows = s.windows := rfl
@[simp] theorem State.setRound_setup (x : Round) : (s.setRound x).setup = s.setup := rfl
@[simp] theorem State.setRound_staged (x : Round) : (s.setRound x).staged = s.staged := rfl
@[simp] theorem State.setRound_attempt (x : Round) : (s.setRound x).attempt = s.attempt := rfl
@[simp] theorem State.setRound_judge (x : Round) : (s.setRound x).judge = s.judge := rfl
@[simp] theorem State.setRound_round (x : Round) : (s.setRound x).round = x := rfl
@[simp] theorem State.setRound_store (x : Round) : (s.setRound x).store = s.store := rfl
@[simp] theorem State.setRound_voiceA (x : Round) : (s.setRound x).voiceA = s.voiceA := rfl
@[simp] theorem State.setRound_voiceB (x : Round) : (s.setRound x).voiceB = s.voiceB := rfl
@[simp] theorem State.setRound_underruns (x : Round) : (s.setRound x).underruns = s.underruns := rfl
@[simp] theorem State.setRound_port (x : Round) : (s.setRound x).port = s.port := rfl
@[simp] theorem State.setRound_mixer (x : Round) : (s.setRound x).mixer = s.mixer := rfl
@[simp] theorem State.setRound_link (x : Round) : (s.setRound x).link = s.link := rfl
@[simp] theorem State.setRound_roster (x : Round) : (s.setRound x).roster = s.roster := rfl
@[simp] theorem State.setRound_answer (x : Round) : (s.setRound x).answer = s.answer := rfl
@[simp] theorem State.setRound_flags (x : Round) : (s.setRound x).flags = s.flags := rfl
@[simp] theorem State.setRound_reports (x : Round) : (s.setRound x).reports = s.reports := rfl

@[simp] theorem State.setStore_pending (x : Store) : (s.setStore x).pending = s.pending := rfl
@[simp] theorem State.setStore_laptop (x : Store) : (s.setStore x).laptop = s.laptop := rfl
@[simp] theorem State.setStore_power (x : Store) : (s.setStore x).power = s.power := rfl
@[simp] theorem State.setStore_scanner (x : Store) : (s.setStore x).scanner = s.scanner := rfl
@[simp] theorem State.setStore_words (x : Store) : (s.setStore x).words = s.words := rfl
@[simp] theorem State.setStore_loader (x : Store) : (s.setStore x).loader = s.loader := rfl
@[simp] theorem State.setStore_progress (x : Store) : (s.setStore x).progress = s.progress := rfl
@[simp] theorem State.setStore_previous (x : Store) : (s.setStore x).previous = s.previous := rfl
@[simp] theorem State.setStore_windows (x : Store) : (s.setStore x).windows = s.windows := rfl
@[simp] theorem State.setStore_setup (x : Store) : (s.setStore x).setup = s.setup := rfl
@[simp] theorem State.setStore_staged (x : Store) : (s.setStore x).staged = s.staged := rfl
@[simp] theorem State.setStore_attempt (x : Store) : (s.setStore x).attempt = s.attempt := rfl
@[simp] theorem State.setStore_judge (x : Store) : (s.setStore x).judge = s.judge := rfl
@[simp] theorem State.setStore_round (x : Store) : (s.setStore x).round = s.round := rfl
@[simp] theorem State.setStore_store (x : Store) : (s.setStore x).store = x := rfl
@[simp] theorem State.setStore_voiceA (x : Store) : (s.setStore x).voiceA = s.voiceA := rfl
@[simp] theorem State.setStore_voiceB (x : Store) : (s.setStore x).voiceB = s.voiceB := rfl
@[simp] theorem State.setStore_underruns (x : Store) : (s.setStore x).underruns = s.underruns := rfl
@[simp] theorem State.setStore_port (x : Store) : (s.setStore x).port = s.port := rfl
@[simp] theorem State.setStore_mixer (x : Store) : (s.setStore x).mixer = s.mixer := rfl
@[simp] theorem State.setStore_link (x : Store) : (s.setStore x).link = s.link := rfl
@[simp] theorem State.setStore_roster (x : Store) : (s.setStore x).roster = s.roster := rfl
@[simp] theorem State.setStore_answer (x : Store) : (s.setStore x).answer = s.answer := rfl
@[simp] theorem State.setStore_flags (x : Store) : (s.setStore x).flags = s.flags := rfl
@[simp] theorem State.setStore_reports (x : Store) : (s.setStore x).reports = s.reports := rfl

@[simp] theorem State.setVoiceA_pending (x : Voice) : (s.setVoiceA x).pending = s.pending := rfl
@[simp] theorem State.setVoiceA_laptop (x : Voice) : (s.setVoiceA x).laptop = s.laptop := rfl
@[simp] theorem State.setVoiceA_power (x : Voice) : (s.setVoiceA x).power = s.power := rfl
@[simp] theorem State.setVoiceA_scanner (x : Voice) : (s.setVoiceA x).scanner = s.scanner := rfl
@[simp] theorem State.setVoiceA_words (x : Voice) : (s.setVoiceA x).words = s.words := rfl
@[simp] theorem State.setVoiceA_loader (x : Voice) : (s.setVoiceA x).loader = s.loader := rfl
@[simp] theorem State.setVoiceA_progress (x : Voice) : (s.setVoiceA x).progress = s.progress := rfl
@[simp] theorem State.setVoiceA_previous (x : Voice) : (s.setVoiceA x).previous = s.previous := rfl
@[simp] theorem State.setVoiceA_windows (x : Voice) : (s.setVoiceA x).windows = s.windows := rfl
@[simp] theorem State.setVoiceA_setup (x : Voice) : (s.setVoiceA x).setup = s.setup := rfl
@[simp] theorem State.setVoiceA_staged (x : Voice) : (s.setVoiceA x).staged = s.staged := rfl
@[simp] theorem State.setVoiceA_attempt (x : Voice) : (s.setVoiceA x).attempt = s.attempt := rfl
@[simp] theorem State.setVoiceA_judge (x : Voice) : (s.setVoiceA x).judge = s.judge := rfl
@[simp] theorem State.setVoiceA_round (x : Voice) : (s.setVoiceA x).round = s.round := rfl
@[simp] theorem State.setVoiceA_store (x : Voice) : (s.setVoiceA x).store = s.store := rfl
@[simp] theorem State.setVoiceA_voiceA (x : Voice) : (s.setVoiceA x).voiceA = x := rfl
@[simp] theorem State.setVoiceA_voiceB (x : Voice) : (s.setVoiceA x).voiceB = s.voiceB := rfl
@[simp] theorem State.setVoiceA_underruns (x : Voice) : (s.setVoiceA x).underruns = s.underruns := rfl
@[simp] theorem State.setVoiceA_port (x : Voice) : (s.setVoiceA x).port = s.port := rfl
@[simp] theorem State.setVoiceA_mixer (x : Voice) : (s.setVoiceA x).mixer = s.mixer := rfl
@[simp] theorem State.setVoiceA_link (x : Voice) : (s.setVoiceA x).link = s.link := rfl
@[simp] theorem State.setVoiceA_roster (x : Voice) : (s.setVoiceA x).roster = s.roster := rfl
@[simp] theorem State.setVoiceA_answer (x : Voice) : (s.setVoiceA x).answer = s.answer := rfl
@[simp] theorem State.setVoiceA_flags (x : Voice) : (s.setVoiceA x).flags = s.flags := rfl
@[simp] theorem State.setVoiceA_reports (x : Voice) : (s.setVoiceA x).reports = s.reports := rfl

@[simp] theorem State.setVoiceB_pending (x : Voice) : (s.setVoiceB x).pending = s.pending := rfl
@[simp] theorem State.setVoiceB_laptop (x : Voice) : (s.setVoiceB x).laptop = s.laptop := rfl
@[simp] theorem State.setVoiceB_power (x : Voice) : (s.setVoiceB x).power = s.power := rfl
@[simp] theorem State.setVoiceB_scanner (x : Voice) : (s.setVoiceB x).scanner = s.scanner := rfl
@[simp] theorem State.setVoiceB_words (x : Voice) : (s.setVoiceB x).words = s.words := rfl
@[simp] theorem State.setVoiceB_loader (x : Voice) : (s.setVoiceB x).loader = s.loader := rfl
@[simp] theorem State.setVoiceB_progress (x : Voice) : (s.setVoiceB x).progress = s.progress := rfl
@[simp] theorem State.setVoiceB_previous (x : Voice) : (s.setVoiceB x).previous = s.previous := rfl
@[simp] theorem State.setVoiceB_windows (x : Voice) : (s.setVoiceB x).windows = s.windows := rfl
@[simp] theorem State.setVoiceB_setup (x : Voice) : (s.setVoiceB x).setup = s.setup := rfl
@[simp] theorem State.setVoiceB_staged (x : Voice) : (s.setVoiceB x).staged = s.staged := rfl
@[simp] theorem State.setVoiceB_attempt (x : Voice) : (s.setVoiceB x).attempt = s.attempt := rfl
@[simp] theorem State.setVoiceB_judge (x : Voice) : (s.setVoiceB x).judge = s.judge := rfl
@[simp] theorem State.setVoiceB_round (x : Voice) : (s.setVoiceB x).round = s.round := rfl
@[simp] theorem State.setVoiceB_store (x : Voice) : (s.setVoiceB x).store = s.store := rfl
@[simp] theorem State.setVoiceB_voiceA (x : Voice) : (s.setVoiceB x).voiceA = s.voiceA := rfl
@[simp] theorem State.setVoiceB_voiceB (x : Voice) : (s.setVoiceB x).voiceB = x := rfl
@[simp] theorem State.setVoiceB_underruns (x : Voice) : (s.setVoiceB x).underruns = s.underruns := rfl
@[simp] theorem State.setVoiceB_port (x : Voice) : (s.setVoiceB x).port = s.port := rfl
@[simp] theorem State.setVoiceB_mixer (x : Voice) : (s.setVoiceB x).mixer = s.mixer := rfl
@[simp] theorem State.setVoiceB_link (x : Voice) : (s.setVoiceB x).link = s.link := rfl
@[simp] theorem State.setVoiceB_roster (x : Voice) : (s.setVoiceB x).roster = s.roster := rfl
@[simp] theorem State.setVoiceB_answer (x : Voice) : (s.setVoiceB x).answer = s.answer := rfl
@[simp] theorem State.setVoiceB_flags (x : Voice) : (s.setVoiceB x).flags = s.flags := rfl
@[simp] theorem State.setVoiceB_reports (x : Voice) : (s.setVoiceB x).reports = s.reports := rfl

@[simp] theorem State.setUnderruns_pending (x : Nat) : (s.setUnderruns x).pending = s.pending := rfl
@[simp] theorem State.setUnderruns_laptop (x : Nat) : (s.setUnderruns x).laptop = s.laptop := rfl
@[simp] theorem State.setUnderruns_power (x : Nat) : (s.setUnderruns x).power = s.power := rfl
@[simp] theorem State.setUnderruns_scanner (x : Nat) : (s.setUnderruns x).scanner = s.scanner := rfl
@[simp] theorem State.setUnderruns_words (x : Nat) : (s.setUnderruns x).words = s.words := rfl
@[simp] theorem State.setUnderruns_loader (x : Nat) : (s.setUnderruns x).loader = s.loader := rfl
@[simp] theorem State.setUnderruns_progress (x : Nat) : (s.setUnderruns x).progress = s.progress := rfl
@[simp] theorem State.setUnderruns_previous (x : Nat) : (s.setUnderruns x).previous = s.previous := rfl
@[simp] theorem State.setUnderruns_windows (x : Nat) : (s.setUnderruns x).windows = s.windows := rfl
@[simp] theorem State.setUnderruns_setup (x : Nat) : (s.setUnderruns x).setup = s.setup := rfl
@[simp] theorem State.setUnderruns_staged (x : Nat) : (s.setUnderruns x).staged = s.staged := rfl
@[simp] theorem State.setUnderruns_attempt (x : Nat) : (s.setUnderruns x).attempt = s.attempt := rfl
@[simp] theorem State.setUnderruns_judge (x : Nat) : (s.setUnderruns x).judge = s.judge := rfl
@[simp] theorem State.setUnderruns_round (x : Nat) : (s.setUnderruns x).round = s.round := rfl
@[simp] theorem State.setUnderruns_store (x : Nat) : (s.setUnderruns x).store = s.store := rfl
@[simp] theorem State.setUnderruns_voiceA (x : Nat) : (s.setUnderruns x).voiceA = s.voiceA := rfl
@[simp] theorem State.setUnderruns_voiceB (x : Nat) : (s.setUnderruns x).voiceB = s.voiceB := rfl
@[simp] theorem State.setUnderruns_underruns (x : Nat) : (s.setUnderruns x).underruns = x := rfl
@[simp] theorem State.setUnderruns_port (x : Nat) : (s.setUnderruns x).port = s.port := rfl
@[simp] theorem State.setUnderruns_mixer (x : Nat) : (s.setUnderruns x).mixer = s.mixer := rfl
@[simp] theorem State.setUnderruns_link (x : Nat) : (s.setUnderruns x).link = s.link := rfl
@[simp] theorem State.setUnderruns_roster (x : Nat) : (s.setUnderruns x).roster = s.roster := rfl
@[simp] theorem State.setUnderruns_answer (x : Nat) : (s.setUnderruns x).answer = s.answer := rfl
@[simp] theorem State.setUnderruns_flags (x : Nat) : (s.setUnderruns x).flags = s.flags := rfl
@[simp] theorem State.setUnderruns_reports (x : Nat) : (s.setUnderruns x).reports = s.reports := rfl

@[simp] theorem State.setPort_pending (x : Port) : (s.setPort x).pending = s.pending := rfl
@[simp] theorem State.setPort_laptop (x : Port) : (s.setPort x).laptop = s.laptop := rfl
@[simp] theorem State.setPort_power (x : Port) : (s.setPort x).power = s.power := rfl
@[simp] theorem State.setPort_scanner (x : Port) : (s.setPort x).scanner = s.scanner := rfl
@[simp] theorem State.setPort_words (x : Port) : (s.setPort x).words = s.words := rfl
@[simp] theorem State.setPort_loader (x : Port) : (s.setPort x).loader = s.loader := rfl
@[simp] theorem State.setPort_progress (x : Port) : (s.setPort x).progress = s.progress := rfl
@[simp] theorem State.setPort_previous (x : Port) : (s.setPort x).previous = s.previous := rfl
@[simp] theorem State.setPort_windows (x : Port) : (s.setPort x).windows = s.windows := rfl
@[simp] theorem State.setPort_setup (x : Port) : (s.setPort x).setup = s.setup := rfl
@[simp] theorem State.setPort_staged (x : Port) : (s.setPort x).staged = s.staged := rfl
@[simp] theorem State.setPort_attempt (x : Port) : (s.setPort x).attempt = s.attempt := rfl
@[simp] theorem State.setPort_judge (x : Port) : (s.setPort x).judge = s.judge := rfl
@[simp] theorem State.setPort_round (x : Port) : (s.setPort x).round = s.round := rfl
@[simp] theorem State.setPort_store (x : Port) : (s.setPort x).store = s.store := rfl
@[simp] theorem State.setPort_voiceA (x : Port) : (s.setPort x).voiceA = s.voiceA := rfl
@[simp] theorem State.setPort_voiceB (x : Port) : (s.setPort x).voiceB = s.voiceB := rfl
@[simp] theorem State.setPort_underruns (x : Port) : (s.setPort x).underruns = s.underruns := rfl
@[simp] theorem State.setPort_port (x : Port) : (s.setPort x).port = x := rfl
@[simp] theorem State.setPort_mixer (x : Port) : (s.setPort x).mixer = s.mixer := rfl
@[simp] theorem State.setPort_link (x : Port) : (s.setPort x).link = s.link := rfl
@[simp] theorem State.setPort_roster (x : Port) : (s.setPort x).roster = s.roster := rfl
@[simp] theorem State.setPort_answer (x : Port) : (s.setPort x).answer = s.answer := rfl
@[simp] theorem State.setPort_flags (x : Port) : (s.setPort x).flags = s.flags := rfl
@[simp] theorem State.setPort_reports (x : Port) : (s.setPort x).reports = s.reports := rfl

@[simp] theorem State.setMixer_pending (x : Mixer) : (s.setMixer x).pending = s.pending := rfl
@[simp] theorem State.setMixer_laptop (x : Mixer) : (s.setMixer x).laptop = s.laptop := rfl
@[simp] theorem State.setMixer_power (x : Mixer) : (s.setMixer x).power = s.power := rfl
@[simp] theorem State.setMixer_scanner (x : Mixer) : (s.setMixer x).scanner = s.scanner := rfl
@[simp] theorem State.setMixer_words (x : Mixer) : (s.setMixer x).words = s.words := rfl
@[simp] theorem State.setMixer_loader (x : Mixer) : (s.setMixer x).loader = s.loader := rfl
@[simp] theorem State.setMixer_progress (x : Mixer) : (s.setMixer x).progress = s.progress := rfl
@[simp] theorem State.setMixer_previous (x : Mixer) : (s.setMixer x).previous = s.previous := rfl
@[simp] theorem State.setMixer_windows (x : Mixer) : (s.setMixer x).windows = s.windows := rfl
@[simp] theorem State.setMixer_setup (x : Mixer) : (s.setMixer x).setup = s.setup := rfl
@[simp] theorem State.setMixer_staged (x : Mixer) : (s.setMixer x).staged = s.staged := rfl
@[simp] theorem State.setMixer_attempt (x : Mixer) : (s.setMixer x).attempt = s.attempt := rfl
@[simp] theorem State.setMixer_judge (x : Mixer) : (s.setMixer x).judge = s.judge := rfl
@[simp] theorem State.setMixer_round (x : Mixer) : (s.setMixer x).round = s.round := rfl
@[simp] theorem State.setMixer_store (x : Mixer) : (s.setMixer x).store = s.store := rfl
@[simp] theorem State.setMixer_voiceA (x : Mixer) : (s.setMixer x).voiceA = s.voiceA := rfl
@[simp] theorem State.setMixer_voiceB (x : Mixer) : (s.setMixer x).voiceB = s.voiceB := rfl
@[simp] theorem State.setMixer_underruns (x : Mixer) : (s.setMixer x).underruns = s.underruns := rfl
@[simp] theorem State.setMixer_port (x : Mixer) : (s.setMixer x).port = s.port := rfl
@[simp] theorem State.setMixer_mixer (x : Mixer) : (s.setMixer x).mixer = x := rfl
@[simp] theorem State.setMixer_link (x : Mixer) : (s.setMixer x).link = s.link := rfl
@[simp] theorem State.setMixer_roster (x : Mixer) : (s.setMixer x).roster = s.roster := rfl
@[simp] theorem State.setMixer_answer (x : Mixer) : (s.setMixer x).answer = s.answer := rfl
@[simp] theorem State.setMixer_flags (x : Mixer) : (s.setMixer x).flags = s.flags := rfl
@[simp] theorem State.setMixer_reports (x : Mixer) : (s.setMixer x).reports = s.reports := rfl

@[simp] theorem State.setLink_pending (x : Link) : (s.setLink x).pending = s.pending := rfl
@[simp] theorem State.setLink_laptop (x : Link) : (s.setLink x).laptop = s.laptop := rfl
@[simp] theorem State.setLink_power (x : Link) : (s.setLink x).power = s.power := rfl
@[simp] theorem State.setLink_scanner (x : Link) : (s.setLink x).scanner = s.scanner := rfl
@[simp] theorem State.setLink_words (x : Link) : (s.setLink x).words = s.words := rfl
@[simp] theorem State.setLink_loader (x : Link) : (s.setLink x).loader = s.loader := rfl
@[simp] theorem State.setLink_progress (x : Link) : (s.setLink x).progress = s.progress := rfl
@[simp] theorem State.setLink_previous (x : Link) : (s.setLink x).previous = s.previous := rfl
@[simp] theorem State.setLink_windows (x : Link) : (s.setLink x).windows = s.windows := rfl
@[simp] theorem State.setLink_setup (x : Link) : (s.setLink x).setup = s.setup := rfl
@[simp] theorem State.setLink_staged (x : Link) : (s.setLink x).staged = s.staged := rfl
@[simp] theorem State.setLink_attempt (x : Link) : (s.setLink x).attempt = s.attempt := rfl
@[simp] theorem State.setLink_judge (x : Link) : (s.setLink x).judge = s.judge := rfl
@[simp] theorem State.setLink_round (x : Link) : (s.setLink x).round = s.round := rfl
@[simp] theorem State.setLink_store (x : Link) : (s.setLink x).store = s.store := rfl
@[simp] theorem State.setLink_voiceA (x : Link) : (s.setLink x).voiceA = s.voiceA := rfl
@[simp] theorem State.setLink_voiceB (x : Link) : (s.setLink x).voiceB = s.voiceB := rfl
@[simp] theorem State.setLink_underruns (x : Link) : (s.setLink x).underruns = s.underruns := rfl
@[simp] theorem State.setLink_port (x : Link) : (s.setLink x).port = s.port := rfl
@[simp] theorem State.setLink_mixer (x : Link) : (s.setLink x).mixer = s.mixer := rfl
@[simp] theorem State.setLink_link (x : Link) : (s.setLink x).link = x := rfl
@[simp] theorem State.setLink_roster (x : Link) : (s.setLink x).roster = s.roster := rfl
@[simp] theorem State.setLink_answer (x : Link) : (s.setLink x).answer = s.answer := rfl
@[simp] theorem State.setLink_flags (x : Link) : (s.setLink x).flags = s.flags := rfl
@[simp] theorem State.setLink_reports (x : Link) : (s.setLink x).reports = s.reports := rfl

@[simp] theorem State.setRoster_pending (x : List (Option RosterEntry)) : (s.setRoster x).pending = s.pending := rfl
@[simp] theorem State.setRoster_laptop (x : List (Option RosterEntry)) : (s.setRoster x).laptop = s.laptop := rfl
@[simp] theorem State.setRoster_power (x : List (Option RosterEntry)) : (s.setRoster x).power = s.power := rfl
@[simp] theorem State.setRoster_scanner (x : List (Option RosterEntry)) : (s.setRoster x).scanner = s.scanner := rfl
@[simp] theorem State.setRoster_words (x : List (Option RosterEntry)) : (s.setRoster x).words = s.words := rfl
@[simp] theorem State.setRoster_loader (x : List (Option RosterEntry)) : (s.setRoster x).loader = s.loader := rfl
@[simp] theorem State.setRoster_progress (x : List (Option RosterEntry)) : (s.setRoster x).progress = s.progress := rfl
@[simp] theorem State.setRoster_previous (x : List (Option RosterEntry)) : (s.setRoster x).previous = s.previous := rfl
@[simp] theorem State.setRoster_windows (x : List (Option RosterEntry)) : (s.setRoster x).windows = s.windows := rfl
@[simp] theorem State.setRoster_setup (x : List (Option RosterEntry)) : (s.setRoster x).setup = s.setup := rfl
@[simp] theorem State.setRoster_staged (x : List (Option RosterEntry)) : (s.setRoster x).staged = s.staged := rfl
@[simp] theorem State.setRoster_attempt (x : List (Option RosterEntry)) : (s.setRoster x).attempt = s.attempt := rfl
@[simp] theorem State.setRoster_judge (x : List (Option RosterEntry)) : (s.setRoster x).judge = s.judge := rfl
@[simp] theorem State.setRoster_round (x : List (Option RosterEntry)) : (s.setRoster x).round = s.round := rfl
@[simp] theorem State.setRoster_store (x : List (Option RosterEntry)) : (s.setRoster x).store = s.store := rfl
@[simp] theorem State.setRoster_voiceA (x : List (Option RosterEntry)) : (s.setRoster x).voiceA = s.voiceA := rfl
@[simp] theorem State.setRoster_voiceB (x : List (Option RosterEntry)) : (s.setRoster x).voiceB = s.voiceB := rfl
@[simp] theorem State.setRoster_underruns (x : List (Option RosterEntry)) : (s.setRoster x).underruns = s.underruns := rfl
@[simp] theorem State.setRoster_port (x : List (Option RosterEntry)) : (s.setRoster x).port = s.port := rfl
@[simp] theorem State.setRoster_mixer (x : List (Option RosterEntry)) : (s.setRoster x).mixer = s.mixer := rfl
@[simp] theorem State.setRoster_link (x : List (Option RosterEntry)) : (s.setRoster x).link = s.link := rfl
@[simp] theorem State.setRoster_roster (x : List (Option RosterEntry)) : (s.setRoster x).roster = x := rfl
@[simp] theorem State.setRoster_answer (x : List (Option RosterEntry)) : (s.setRoster x).answer = s.answer := rfl
@[simp] theorem State.setRoster_flags (x : List (Option RosterEntry)) : (s.setRoster x).flags = s.flags := rfl
@[simp] theorem State.setRoster_reports (x : List (Option RosterEntry)) : (s.setRoster x).reports = s.reports := rfl

@[simp] theorem State.setAnswer_pending (x : Option Reply) : (s.setAnswer x).pending = s.pending := rfl
@[simp] theorem State.setAnswer_laptop (x : Option Reply) : (s.setAnswer x).laptop = s.laptop := rfl
@[simp] theorem State.setAnswer_power (x : Option Reply) : (s.setAnswer x).power = s.power := rfl
@[simp] theorem State.setAnswer_scanner (x : Option Reply) : (s.setAnswer x).scanner = s.scanner := rfl
@[simp] theorem State.setAnswer_words (x : Option Reply) : (s.setAnswer x).words = s.words := rfl
@[simp] theorem State.setAnswer_loader (x : Option Reply) : (s.setAnswer x).loader = s.loader := rfl
@[simp] theorem State.setAnswer_progress (x : Option Reply) : (s.setAnswer x).progress = s.progress := rfl
@[simp] theorem State.setAnswer_previous (x : Option Reply) : (s.setAnswer x).previous = s.previous := rfl
@[simp] theorem State.setAnswer_windows (x : Option Reply) : (s.setAnswer x).windows = s.windows := rfl
@[simp] theorem State.setAnswer_setup (x : Option Reply) : (s.setAnswer x).setup = s.setup := rfl
@[simp] theorem State.setAnswer_staged (x : Option Reply) : (s.setAnswer x).staged = s.staged := rfl
@[simp] theorem State.setAnswer_attempt (x : Option Reply) : (s.setAnswer x).attempt = s.attempt := rfl
@[simp] theorem State.setAnswer_judge (x : Option Reply) : (s.setAnswer x).judge = s.judge := rfl
@[simp] theorem State.setAnswer_round (x : Option Reply) : (s.setAnswer x).round = s.round := rfl
@[simp] theorem State.setAnswer_store (x : Option Reply) : (s.setAnswer x).store = s.store := rfl
@[simp] theorem State.setAnswer_voiceA (x : Option Reply) : (s.setAnswer x).voiceA = s.voiceA := rfl
@[simp] theorem State.setAnswer_voiceB (x : Option Reply) : (s.setAnswer x).voiceB = s.voiceB := rfl
@[simp] theorem State.setAnswer_underruns (x : Option Reply) : (s.setAnswer x).underruns = s.underruns := rfl
@[simp] theorem State.setAnswer_port (x : Option Reply) : (s.setAnswer x).port = s.port := rfl
@[simp] theorem State.setAnswer_mixer (x : Option Reply) : (s.setAnswer x).mixer = s.mixer := rfl
@[simp] theorem State.setAnswer_link (x : Option Reply) : (s.setAnswer x).link = s.link := rfl
@[simp] theorem State.setAnswer_roster (x : Option Reply) : (s.setAnswer x).roster = s.roster := rfl
@[simp] theorem State.setAnswer_answer (x : Option Reply) : (s.setAnswer x).answer = x := rfl
@[simp] theorem State.setAnswer_flags (x : Option Reply) : (s.setAnswer x).flags = s.flags := rfl
@[simp] theorem State.setAnswer_reports (x : Option Reply) : (s.setAnswer x).reports = s.reports := rfl

@[simp] theorem State.setFlags_pending (x : Flags) : (s.setFlags x).pending = s.pending := rfl
@[simp] theorem State.setFlags_laptop (x : Flags) : (s.setFlags x).laptop = s.laptop := rfl
@[simp] theorem State.setFlags_power (x : Flags) : (s.setFlags x).power = s.power := rfl
@[simp] theorem State.setFlags_scanner (x : Flags) : (s.setFlags x).scanner = s.scanner := rfl
@[simp] theorem State.setFlags_words (x : Flags) : (s.setFlags x).words = s.words := rfl
@[simp] theorem State.setFlags_loader (x : Flags) : (s.setFlags x).loader = s.loader := rfl
@[simp] theorem State.setFlags_progress (x : Flags) : (s.setFlags x).progress = s.progress := rfl
@[simp] theorem State.setFlags_previous (x : Flags) : (s.setFlags x).previous = s.previous := rfl
@[simp] theorem State.setFlags_windows (x : Flags) : (s.setFlags x).windows = s.windows := rfl
@[simp] theorem State.setFlags_setup (x : Flags) : (s.setFlags x).setup = s.setup := rfl
@[simp] theorem State.setFlags_staged (x : Flags) : (s.setFlags x).staged = s.staged := rfl
@[simp] theorem State.setFlags_attempt (x : Flags) : (s.setFlags x).attempt = s.attempt := rfl
@[simp] theorem State.setFlags_judge (x : Flags) : (s.setFlags x).judge = s.judge := rfl
@[simp] theorem State.setFlags_round (x : Flags) : (s.setFlags x).round = s.round := rfl
@[simp] theorem State.setFlags_store (x : Flags) : (s.setFlags x).store = s.store := rfl
@[simp] theorem State.setFlags_voiceA (x : Flags) : (s.setFlags x).voiceA = s.voiceA := rfl
@[simp] theorem State.setFlags_voiceB (x : Flags) : (s.setFlags x).voiceB = s.voiceB := rfl
@[simp] theorem State.setFlags_underruns (x : Flags) : (s.setFlags x).underruns = s.underruns := rfl
@[simp] theorem State.setFlags_port (x : Flags) : (s.setFlags x).port = s.port := rfl
@[simp] theorem State.setFlags_mixer (x : Flags) : (s.setFlags x).mixer = s.mixer := rfl
@[simp] theorem State.setFlags_link (x : Flags) : (s.setFlags x).link = s.link := rfl
@[simp] theorem State.setFlags_roster (x : Flags) : (s.setFlags x).roster = s.roster := rfl
@[simp] theorem State.setFlags_answer (x : Flags) : (s.setFlags x).answer = s.answer := rfl
@[simp] theorem State.setFlags_flags (x : Flags) : (s.setFlags x).flags = x := rfl
@[simp] theorem State.setFlags_reports (x : Flags) : (s.setFlags x).reports = s.reports := rfl

@[simp] theorem State.setReports_pending (x : List Record) : (s.setReports x).pending = s.pending := rfl
@[simp] theorem State.setReports_laptop (x : List Record) : (s.setReports x).laptop = s.laptop := rfl
@[simp] theorem State.setReports_power (x : List Record) : (s.setReports x).power = s.power := rfl
@[simp] theorem State.setReports_scanner (x : List Record) : (s.setReports x).scanner = s.scanner := rfl
@[simp] theorem State.setReports_words (x : List Record) : (s.setReports x).words = s.words := rfl
@[simp] theorem State.setReports_loader (x : List Record) : (s.setReports x).loader = s.loader := rfl
@[simp] theorem State.setReports_progress (x : List Record) : (s.setReports x).progress = s.progress := rfl
@[simp] theorem State.setReports_previous (x : List Record) : (s.setReports x).previous = s.previous := rfl
@[simp] theorem State.setReports_windows (x : List Record) : (s.setReports x).windows = s.windows := rfl
@[simp] theorem State.setReports_setup (x : List Record) : (s.setReports x).setup = s.setup := rfl
@[simp] theorem State.setReports_staged (x : List Record) : (s.setReports x).staged = s.staged := rfl
@[simp] theorem State.setReports_attempt (x : List Record) : (s.setReports x).attempt = s.attempt := rfl
@[simp] theorem State.setReports_judge (x : List Record) : (s.setReports x).judge = s.judge := rfl
@[simp] theorem State.setReports_round (x : List Record) : (s.setReports x).round = s.round := rfl
@[simp] theorem State.setReports_store (x : List Record) : (s.setReports x).store = s.store := rfl
@[simp] theorem State.setReports_voiceA (x : List Record) : (s.setReports x).voiceA = s.voiceA := rfl
@[simp] theorem State.setReports_voiceB (x : List Record) : (s.setReports x).voiceB = s.voiceB := rfl
@[simp] theorem State.setReports_underruns (x : List Record) : (s.setReports x).underruns = s.underruns := rfl
@[simp] theorem State.setReports_port (x : List Record) : (s.setReports x).port = s.port := rfl
@[simp] theorem State.setReports_mixer (x : List Record) : (s.setReports x).mixer = s.mixer := rfl
@[simp] theorem State.setReports_link (x : List Record) : (s.setReports x).link = s.link := rfl
@[simp] theorem State.setReports_roster (x : List Record) : (s.setReports x).roster = s.roster := rfl
@[simp] theorem State.setReports_answer (x : List Record) : (s.setReports x).answer = s.answer := rfl
@[simp] theorem State.setReports_flags (x : List Record) : (s.setReports x).flags = s.flags := rfl
@[simp] theorem State.setReports_reports (x : List Record) : (s.setReports x).reports = x := rfl

end Sys2Proof.Machine
end

