-- ==== Sys2Proof/Laws/Frames.lean ====
section
/-! SUPPORT. The frame of each shared operation: one lemma each, saying which fields of State it leaves as they are. Simp
takes each lemma as one rewrite rule for each field. -/

namespace Sys2Proof.Machine

/-- What every step of a fold keeps true, the fold keeps true. -/
theorem foldl_holds {α : Type} (f : State → α → State) (P : State → Prop) (h : ∀ s a, P s → P (f s a)) :
    ∀ (l : List α) (s : State), P s → P (l.foldl f s)
  | [], _, hs => hs
  | a :: l, s, hs => foldl_holds f P h l (f s a) (h s a hs)

variable (s : State)

/-- From s to t, only posting a record may have changed (R183). -/
abbrev KeepsReports (s t : State) : Prop :=
  t.pending = s.pending ∧ t.laptop = s.laptop ∧ t.power = s.power ∧ t.scanner = s.scanner ∧ t.words = s.words ∧
  t.loader = s.loader ∧ t.progress = s.progress ∧ t.previous = s.previous ∧ t.windows = s.windows ∧
  t.setup = s.setup ∧ t.staged = s.staged ∧ t.attempt = s.attempt ∧ t.judge = s.judge ∧ t.round = s.round ∧
  t.store = s.store ∧ t.voiceA = s.voiceA ∧ t.voiceB = s.voiceB ∧ t.underruns = s.underruns ∧ t.port = s.port ∧
  t.mixer = s.mixer ∧ t.link = s.link ∧ t.roster = s.roster ∧ t.answer = s.answer

/-- From s to t, only the round may have changed. -/
abbrev KeepsRound (s t : State) : Prop :=
  t.pending = s.pending ∧ t.laptop = s.laptop ∧ t.power = s.power ∧ t.scanner = s.scanner ∧ t.words = s.words ∧
  t.loader = s.loader ∧ t.progress = s.progress ∧ t.previous = s.previous ∧ t.windows = s.windows ∧
  t.setup = s.setup ∧ t.staged = s.staged ∧ t.store = s.store ∧ t.voiceA = s.voiceA ∧ t.voiceB = s.voiceB ∧
  t.underruns = s.underruns ∧ t.port = s.port ∧ t.mixer = s.mixer ∧ t.link = s.link ∧ t.roster = s.roster ∧
  t.answer = s.answer ∧ t.flags = s.flags ∧ t.reports = s.reports

/-- From s to t, only what the end of an utterance reaches may have changed (R97, R120, R121). -/
abbrev KeepsEnding (s t : State) : Prop :=
  t.pending = s.pending ∧ t.laptop = s.laptop ∧ t.power = s.power ∧ t.scanner = s.scanner ∧ t.words = s.words ∧
  t.loader = s.loader ∧ t.progress = s.progress ∧ t.previous = s.previous ∧ t.windows = s.windows ∧
  t.setup = s.setup ∧ t.staged = s.staged ∧ t.voiceA = s.voiceA ∧ t.voiceB = s.voiceB ∧ t.underruns = s.underruns ∧
  t.port = s.port ∧ t.mixer = s.mixer ∧ t.link = s.link ∧ t.roster = s.roster ∧ t.answer = s.answer

/-- From s to t, only the voices and the Memory Port may have changed. -/
abbrev KeepsSound (s t : State) : Prop :=
  t.pending = s.pending ∧ t.laptop = s.laptop ∧ t.power = s.power ∧ t.scanner = s.scanner ∧ t.words = s.words ∧
  t.loader = s.loader ∧ t.progress = s.progress ∧ t.previous = s.previous ∧ t.windows = s.windows ∧
  t.setup = s.setup ∧ t.staged = s.staged ∧ t.attempt = s.attempt ∧ t.judge = s.judge ∧ t.round = s.round ∧
  t.store = s.store ∧ t.underruns = s.underruns ∧ t.mixer = s.mixer ∧ t.link = s.link ∧ t.roster = s.roster ∧
  t.answer = s.answer ∧ t.flags = s.flags ∧ t.reports = s.reports

/-- From s to t, only what speech reaches may have changed: voices, port, store, records, and the round through a mark (R68). -/
abbrev KeepsSpeech (s t : State) : Prop :=
  t.pending = s.pending ∧ t.laptop = s.laptop ∧ t.power = s.power ∧ t.scanner = s.scanner ∧ t.words = s.words ∧
  t.loader = s.loader ∧ t.progress = s.progress ∧ t.previous = s.previous ∧ t.windows = s.windows ∧
  t.setup = s.setup ∧ t.staged = s.staged ∧ t.underruns = s.underruns ∧ t.mixer = s.mixer ∧ t.link = s.link ∧
  t.roster = s.roster ∧ t.answer = s.answer

/-- From s to t, only the Utterance Store may have changed. -/
abbrev KeepsStore (s t : State) : Prop :=
  t.pending = s.pending ∧ t.laptop = s.laptop ∧ t.power = s.power ∧ t.scanner = s.scanner ∧ t.words = s.words ∧
  t.loader = s.loader ∧ t.progress = s.progress ∧ t.previous = s.previous ∧ t.windows = s.windows ∧
  t.setup = s.setup ∧ t.staged = s.staged ∧ t.attempt = s.attempt ∧ t.judge = s.judge ∧ t.round = s.round ∧
  t.voiceA = s.voiceA ∧ t.voiceB = s.voiceB ∧ t.underruns = s.underruns ∧ t.port = s.port ∧ t.mixer = s.mixer ∧
  t.link = s.link ∧ t.roster = s.roster ∧ t.answer = s.answer ∧ t.flags = s.flags ∧ t.reports = s.reports

/-- From s to t, only the Memory Port may have changed. -/
abbrev KeepsPort (s t : State) : Prop :=
  t.pending = s.pending ∧ t.laptop = s.laptop ∧ t.power = s.power ∧ t.scanner = s.scanner ∧ t.words = s.words ∧
  t.loader = s.loader ∧ t.progress = s.progress ∧ t.previous = s.previous ∧ t.windows = s.windows ∧
  t.setup = s.setup ∧ t.staged = s.staged ∧ t.attempt = s.attempt ∧ t.judge = s.judge ∧ t.round = s.round ∧
  t.store = s.store ∧ t.voiceA = s.voiceA ∧ t.voiceB = s.voiceB ∧ t.underruns = s.underruns ∧ t.mixer = s.mixer ∧
  t.link = s.link ∧ t.roster = s.roster ∧ t.answer = s.answer ∧ t.flags = s.flags ∧ t.reports = s.reports

/-- From s to t, only the Link Interface may have changed. -/
abbrev KeepsLink (s t : State) : Prop :=
  t.pending = s.pending ∧ t.laptop = s.laptop ∧ t.power = s.power ∧ t.scanner = s.scanner ∧ t.words = s.words ∧
  t.loader = s.loader ∧ t.progress = s.progress ∧ t.previous = s.previous ∧ t.windows = s.windows ∧
  t.setup = s.setup ∧ t.staged = s.staged ∧ t.attempt = s.attempt ∧ t.judge = s.judge ∧ t.round = s.round ∧
  t.store = s.store ∧ t.voiceA = s.voiceA ∧ t.voiceB = s.voiceB ∧ t.underruns = s.underruns ∧ t.port = s.port ∧
  t.mixer = s.mixer ∧ t.roster = s.roster ∧ t.answer = s.answer ∧ t.flags = s.flags ∧ t.reports = s.reports

/-- From s to t, only what a frame's end reaches may have changed (R134, R135, R137). -/
abbrev KeepsLine (s t : State) : Prop :=
  t.pending = s.pending ∧ t.laptop = s.laptop ∧ t.power = s.power ∧ t.scanner = s.scanner ∧ t.words = s.words ∧
  t.loader = s.loader ∧ t.progress = s.progress ∧ t.previous = s.previous ∧ t.windows = s.windows ∧
  t.setup = s.setup ∧ t.staged = s.staged ∧ t.attempt = s.attempt ∧ t.judge = s.judge ∧ t.round = s.round ∧
  t.store = s.store ∧ t.voiceA = s.voiceA ∧ t.voiceB = s.voiceB ∧ t.underruns = s.underruns ∧ t.port = s.port ∧
  t.mixer = s.mixer ∧ t.roster = s.roster

/-- From s to t, only the Roster and records may have changed. -/
abbrev KeepsRoster (s t : State) : Prop :=
  t.pending = s.pending ∧ t.laptop = s.laptop ∧ t.power = s.power ∧ t.scanner = s.scanner ∧ t.words = s.words ∧
  t.loader = s.loader ∧ t.progress = s.progress ∧ t.previous = s.previous ∧ t.windows = s.windows ∧
  t.setup = s.setup ∧ t.staged = s.staged ∧ t.attempt = s.attempt ∧ t.judge = s.judge ∧ t.round = s.round ∧
  t.store = s.store ∧ t.voiceA = s.voiceA ∧ t.voiceB = s.voiceB ∧ t.underruns = s.underruns ∧ t.port = s.port ∧
  t.mixer = s.mixer ∧ t.link = s.link ∧ t.answer = s.answer

/-- From s to t, only what a round's events reach may have changed: speech, transmit queue, Roster. -/
abbrev KeepsPlay (s t : State) : Prop :=
  t.pending = s.pending ∧ t.laptop = s.laptop ∧ t.power = s.power ∧ t.scanner = s.scanner ∧ t.words = s.words ∧
  t.loader = s.loader ∧ t.progress = s.progress ∧ t.previous = s.previous ∧ t.windows = s.windows ∧
  t.setup = s.setup ∧ t.staged = s.staged ∧ t.underruns = s.underruns ∧ t.mixer = s.mixer ∧ t.answer = s.answer

@[simp] theorem State.setRoundState_keeps (x : RoundState) : KeepsRound s (s.setRoundState x) := by
  repeat' constructor
@[simp] theorem State.setReceiver_keeps (x : Receiver) : KeepsLink s (s.setReceiver x) := by
  repeat' constructor
@[simp] theorem State.setRows_keeps (x : List Row) : KeepsRound s (s.setRows x) := by
  repeat' constructor
@[simp] theorem State.setMisses_keeps (n : Nat) : KeepsRound s (s.setMisses n) := by
  repeat' constructor
@[simp] theorem State.ask_keeps (r : Requester) (k : TransferKind) : KeepsPort s (s.ask r k) := by
  repeat' constructor
@[simp] theorem State.withdraw_keeps (r : Requester) : KeepsPort s (s.withdraw r) := by
  repeat' constructor
@[simp] theorem State.transferEnds_keeps : KeepsPort s (s.transferEnds) := by
  repeat' constructor
@[simp] theorem State.dropFrame_keeps : KeepsLink s (s.dropFrame) := by
  repeat' constructor
@[simp] theorem State.removeKind_keeps (k : TxKind) : KeepsLink s (s.removeKind k) := by
  repeat' constructor
@[simp] theorem State.emptyQueue_keeps : KeepsLink s (s.emptyQueue) := by
  repeat' constructor
@[simp] theorem State.queueBeat_keeps (b : List Byte) : KeepsLink s (s.queueBeat b) := by
  repeat' constructor
@[simp] theorem State.ageRoster_keeps : KeepsRoster s (s.ageRoster) := by
  repeat' constructor
@[simp] theorem State.clearAttempt_keeps : KeepsRound s (s.clearAttempt) := by
  repeat' constructor
@[simp] theorem State.takeTarget_keeps (w : Nat) : KeepsRound s (s.takeTarget w) := by
  repeat' constructor
@[simp] theorem State.pushLetter_keeps (x : Nat) : KeepsRound s (s.pushLetter x) := by
  repeat' constructor
@[simp] theorem State.openFacts_keeps (k : RoundKind) (w : Nat) (t : Option Nat) (c : Timer) : KeepsRound s (s.openFacts k w t c) := by
  repeat' constructor
@[simp] theorem State.post_keeps (r : Record) : KeepsReports s (s.post r) := by
  unfold State.post; (repeat' split) <;> simp [KeepsReports]
@[simp] theorem State.setVoice_keeps (v : VoiceId) (x : Voice) : KeepsSound s (s.setVoice v x) := by
  cases v <;> repeat' constructor
@[simp] theorem State.freeUtterance_keeps (x : StartRef) : KeepsStore s (s.freeUtterance x) := by
  cases x <;> repeat' constructor
@[simp] theorem State.grant_keeps : KeepsPort s (s.grant) := by
  unfold State.grant; (repeat' split) <;> simp [KeepsPort]
@[simp] theorem State.removePending_keeps : KeepsRound s (s.removePending) := by
  unfold State.removePending; split <;> simp [KeepsRound]
@[simp] theorem State.releaseTarget_keeps : KeepsRound s (s.releaseTarget) := by
  unfold State.releaseTarget; simp [KeepsRound]
@[simp] theorem State.toIdle_keeps : KeepsRound s (s.toIdle) := by
  repeat' constructor
@[simp] theorem State.markEnded_keeps (n : Nat) : KeepsRound s (s.markEnded n) := by
  unfold State.markEnded; (repeat' split) <;> simp [KeepsRound]
@[simp] theorem State.endEntry_keeps (silent : Bool) (e : Entry) (o : SpokenOutcome) : KeepsEnding s (s.endEntry silent e o) := by
  unfold State.endEntry; dsimp only; (repeat' split) <;> simp [KeepsEnding]
@[simp] theorem State.advance_keeps (v : VoiceId) : KeepsSound s (s.advance v) := by
  unfold State.advance; split
  · simp [KeepsSound]
  · split
    · simp [KeepsSound]
    · dsimp only; split <;> simp [KeepsSound]
@[simp] theorem State.begin_keeps (v : VoiceId) (c : Context) : KeepsSound s (s.begin v c) := by
  unfold State.begin; simp [KeepsSound]
@[simp] theorem State.startEntry_keeps (v : VoiceId) (e : Entry) : KeepsSound s (s.startEntry v e) := by
  unfold State.startEntry; simp [KeepsSound]
@[simp] theorem State.chooseNext_keeps (v : VoiceId) : KeepsSound s (s.chooseNext v) := by
  unfold State.chooseNext; dsimp only; (repeat' split) <;> simp [KeepsSound]
@[simp] theorem State.endCurrent_keeps (v : VoiceId) (o : SpokenOutcome) : KeepsSpeech s (s.endCurrent v o) := by
  unfold State.endCurrent; (repeat' split) <;> simp [KeepsSpeech]
@[simp] theorem State.goOn_keeps (v : VoiceId) : KeepsSpeech s (s.goOn v) := by
  unfold State.goOn; dsimp only; split
  · split <;> simp [KeepsSpeech]
  · simp [KeepsSpeech]
@[simp] theorem State.offer_keeps (v : VoiceId) (e : Entry) : KeepsSpeech s (s.offer v e).1 := by
  unfold State.offer; dsimp only; split
  · simp [KeepsSpeech]
  · split
    · simp [KeepsSpeech]
    · split <;> simp [KeepsSpeech]
@[simp] theorem State.offerAll_keeps (v : VoiceId) (es : List Entry) : KeepsSpeech s (s.offerAll v es) := by
  exact foldl_holds _ (fun t => KeepsSpeech s t) (fun t e h => by simpa [KeepsSpeech] using h) es s (by simp [KeepsSpeech])
@[simp] theorem State.offerGroup_keeps (es : List Entry) : KeepsSpeech s (s.offerGroup es) := by
  unfold State.offerGroup; (repeat' split) <;> simp [KeepsSpeech]
@[simp] theorem State.speakOwn_keeps (ps : List Nat) : KeepsSpeech s (s.speakOwn ps) := by
  unfold State.speakOwn; simp [KeepsSpeech]
@[simp] theorem State.speakRound_keeps (ps : List Nat) : KeepsSpeech s (s.speakRound ps) := by
  unfold State.speakRound; simp [KeepsSpeech]
@[simp] theorem State.speakPeer_keeps (n p : Nat) : KeepsSpeech s (s.speakPeer n p) := by
  unfold State.speakPeer; simp [KeepsSpeech]
@[simp] theorem State.offerMarked_keeps (es : List Entry) : KeepsSpeech s (s.offerMarked es) := by
  unfold State.offerMarked; simp [KeepsSpeech]
@[simp] theorem State.stopVoice_keeps (silent : Bool) (v : VoiceId) : KeepsSpeech s (s.stopVoice silent v) := by
  unfold State.stopVoice
  exact foldl_holds _ (fun t => KeepsSpeech s t) (fun t e h => by simpa [KeepsSpeech] using h) _ _ (by simp [KeepsSpeech])
@[simp] theorem State.stopBoth_keeps (silent : Bool) : KeepsSpeech s (s.stopBoth silent) := by
  unfold State.stopBoth; simp [KeepsSpeech]
@[simp] theorem State.compose_keeps (x : List Nat) : KeepsStore s (s.compose x).1 := by
  unfold State.compose; dsimp only; split <;> simp [KeepsStore]
@[simp] theorem State.queueFrame_keeps (k : TxKind) (b : List Byte) : KeepsLink s (s.queueFrame k b) := by
  unfold State.queueFrame; (repeat' split) <;> simp [KeepsLink]
@[simp] theorem State.removeRoundFrames_keeps : KeepsLink s (s.removeRoundFrames) := by
  repeat' constructor
@[simp] theorem State.entryLeaves_keeps : KeepsLine s (s.entryLeaves) := by
  unfold State.entryLeaves; dsimp only; (repeat' split) <;> simp [KeepsLine]
@[simp] theorem State.seeClash_keeps : KeepsLine s (s.seeClash) := by
  unfold State.seeClash; simp [KeepsLine]
@[simp] theorem State.countGood_keeps : KeepsLine s (s.countGood) := by
  unfold State.countGood; (repeat' split) <;> simp [KeepsLine]
@[simp] theorem State.frameEnds_keeps (own : Bool) (role n : Nat) : KeepsLine s (s.frameEnds own role n) := by
  unfold State.frameEnds; dsimp only; (repeat' split) <;> simp [KeepsLine]
@[simp] theorem State.heardPeer_keeps (n : Nat) : KeepsRoster s (s.heardPeer n) := by
  unfold State.heardPeer; (repeat' split) <;> simp [KeepsRoster]
@[simp] theorem State.updatePeer_keeps (n : Nat) (f : RosterEntry → RosterEntry) : KeepsRoster s (s.updatePeer n f) := by
  unfold State.updatePeer; (repeat' split) <;> simp [KeepsRoster]
@[simp] theorem State.tallyLetter_keeps (n : Nat) (on : Bool) : KeepsRoster s (s.tallyLetter n on) := by
  unfold State.tallyLetter; (repeat' split) <;> simp [KeepsRoster]
@[simp] theorem State.removeAged_keeps : KeepsRoster s (s.removeAged) := by
  unfold State.removeAged
  exact foldl_holds _ (fun t => KeepsRoster s t) (fun t n h => by simpa [KeepsRoster] using h) _ _ (by simp [KeepsRoster])
@[simp] theorem State.rosterHears_keeps (n : Nat) : KeepsRoster s (s.rosterHears n) := by
  unfold State.rosterHears; (repeat' split) <;> simp [KeepsRoster]
@[simp] theorem State.queuePrompt_keeps : KeepsSpeech s (s.queuePrompt) := by
  unfold State.queuePrompt; simp [KeepsSpeech]
@[simp] theorem State.echoOwn_keeps (x : Nat) (v : Verdict) : KeepsSpeech s (s.echoOwn x v) := by
  unfold State.echoOwn; (repeat' split) <;> simp [KeepsSpeech]
@[simp] theorem State.roundOver_keeps : KeepsPlay s (s.roundOver) := by
  unfold State.roundOver; simp [KeepsPlay]

end Sys2Proof.Machine
end

