-- ==== Sys2Proof/Laws/Ops.lean ====
section
/-! SUPPORT. What each shared operation can do, said once: the cases of a posted record, an offered key or entry, a grant, the
next utterance, a frame boundary, the end of a transfer and a taken key. -/

namespace Sys2Proof.Machine

variable (s : State)

/-! ## Queues -/

/-- A record joins the Report Queue's tail, or the full queue drops it and REPORT_OVERFLOW is set (R183). -/
theorem State.post_cases (r : Record) :
    (s.reports.length < 16 ∧ s.post r = s.setReports (s.reports ++ [r])) ∨
    (16 ≤ s.reports.length ∧ s.post r = s.setFlags { s.flags with reportOverflow := true }) := by
  unfold State.post
  split
  · exact .inl ⟨‹_›, rfl⟩
  · exact .inr ⟨Nat.le_of_not_lt ‹_›, rfl⟩

/-- The Report Queue never outgrows 16 by a post (R183). -/
theorem State.post_reports_le (r : Record) (h : s.reports.length ≤ 16) : (s.post r).reports.length ≤ 16 := by
  obtain ⟨h1, h2⟩ | ⟨-, h2⟩ := s.post_cases r
  · rw [h2]; simpa using h1
  · rw [h2]; simpa using h

/-- Posting keeps every flag but REPORT_OVERFLOW. -/
theorem State.post_flags (r : Record) :
    (s.post r).flags = s.flags ∨ (s.post r).flags = { s.flags with reportOverflow := true } := by
  obtain ⟨-, h⟩ | ⟨-, h⟩ := s.post_cases r <;> rw [h] <;> simp

/-- A code joins the Key Queue's tail, or the full queue drops it and KEY_OVERRUN is set (R54). -/
theorem State.offerKey_cases (k : Nat) :
    (s.scanner.queue.length < 8 ∧ s.offerKey k = s.setScanner { s.scanner with queue := s.scanner.queue ++ [k] }) ∨
    (8 ≤ s.scanner.queue.length ∧ s.offerKey k = s.setFlags { s.flags with keyOverrun := true }) := by
  unfold State.offerKey
  split
  · exact .inl ⟨‹_›, rfl⟩
  · exact .inr ⟨Nat.le_of_not_lt ‹_›, rfl⟩

/-- A frame joins the transmit queue's tail, or is discarded at its kind's limit (R140). -/
theorem State.queueFrame_cases (k : TxKind) (body : List Byte) :
    (s.link.countKind k < k.limit ∧ s.queueFrame k body =
      s.setLink { s.link with queue := s.link.queue ++ [{ kind := k, body := body, sending := false }] }) ∨
    (k.limit ≤ s.link.countKind k ∧ s.queueFrame k body = s) := by
  unfold State.queueFrame
  split
  · exact .inl ⟨‹_›, rfl⟩
  · exact .inr ⟨Nat.le_of_not_lt ‹_›, rfl⟩

/-! ## Memory Port -/

/-- The arbiter grants the first waiting request to a free port, and does nothing else (R98). -/
theorem State.grant_cases :
    (∃ t rest, s.port.inFlight = none ∧ s.port.waiting = t :: rest ∧
      s.grant = s.setPort { inFlight := some t, waiting := rest }) ∨
    ((s.port.inFlight ≠ none ∨ s.port.waiting = []) ∧ s.grant = s) := by
  unfold State.grant
  split
  · rename_i t rest h1 h2; exact .inl ⟨t, rest, h1, h2, rfl⟩
  · rename_i h
    refine .inr ⟨?_, rfl⟩
    cases h1 : s.port.inFlight with
    | some t => exact .inl (by simp)
    | none =>
      cases h2 : s.port.waiting with
      | nil => exact .inr rfl
      | cons t rest => exact (h t rest h1 h2).elim

/-- After a grant no request waits at a free port (R98). -/
theorem State.grant_leaves_settled (h : s.grant.port.inFlight = none) : s.grant.port.waiting = [] := by
  obtain ⟨t, rest, -, -, h2⟩ | ⟨h1, h2⟩ := s.grant_cases
  · rw [h2] at h; simp at h
  · rw [h2] at h ⊢
    exact h1.resolve_left (fun hn => hn h)

/-- The requests waiting after an insertion are the new one and those before (R98). -/
theorem mem_insertTransfer (t u : Transfer) (l : List Transfer) : u ∈ insertTransfer t l ↔ u = t ∨ u ∈ l := by
  induction l with
  | nil => simp [insertTransfer]
  | cons a l ih =>
    unfold insertTransfer
    split
    · simp
    · simp only [List.mem_cons, ih]; tauto

/-- The end of a transfer of a row: the bytes are handed over with the port freed, or no such transfer was in flight and
nothing changes (R99, log 3). -/
theorem transferEvent_cases (fits : TransferKind → Bool) (hand : Transfer → State → State) :
    (∃ t, s.port.inFlight = some t ∧ fits t.kind = true ∧
      transferEvent s fits hand = .next (hand t s.transferEnds).grant) ∨
    ((∀ t, s.port.inFlight = some t → fits t.kind = false) ∧ transferEvent s fits hand = .next s) := by
  unfold transferEvent
  split
  · rename_i t ht
    split
    · exact .inl ⟨t, ht, ‹_›, rfl⟩
    · rename_i hf
      refine .inr ⟨fun u hu => ?_, rfl⟩
      rw [ht] at hu; cases hu; simpa using hf
  · rename_i h; exact .inr ⟨fun t ht => by simp [h] at ht, rfl⟩

/-! ## Keys -/

/-- A key row takes the head code when the Round Controller takes keys and the code is of the row's class; otherwise nothing
changes (R55, log 9). -/
theorem keyEvent_cases (fits : Nat → Bool) (use : Nat → State → State) :
    (∃ k, s.nextKey = some k ∧ fits k = true ∧ keyEvent s fits use = .next (use k s.dropKey).grant) ∨
    ((∀ k, s.nextKey = some k → fits k = false) ∧ keyEvent s fits use = .next s) := by
  unfold keyEvent
  split
  · rename_i k hk
    split
    · exact .inl ⟨k, hk, ‹_›, rfl⟩
    · rename_i hf
      refine .inr ⟨fun j hj => ?_, rfl⟩
      rw [hk] at hj; cases hj; simpa using hf
  · rename_i h; exact .inr ⟨fun k hk => by simp [h] at hk, rfl⟩

/-- The code taken next is the head of the Key Queue of an awake part (R55). -/
theorem State.nextKey_some {k : Nat} :
    s.nextKey = some k ↔ s.power = .awake ∧ s.round.state.takesKeys = true ∧ s.scanner.queue.head? = some k := by
  unfold State.nextKey
  split <;> simp_all

/-! ## Voices -/

/-- A voice read after a voice is replaced. -/
@[simp] theorem State.setVoice_voice (v : VoiceId) (x : Voice) : (s.setVoice v x).voice v = x := by cases v <;> rfl

/-- Replacing a voice leaves the other one. -/
theorem State.setVoice_other {v w : VoiceId} (h : w ≠ v) (x : Voice) : (s.setVoice v x).voice w = s.voice w := by
  cases v <;> cases w <;> first | rfl | exact absurd rfl h

/-- Replacing a voice twice is replacing it once. -/
@[simp] theorem State.setVoice_setVoice (v : VoiceId) (x y : Voice) : (s.setVoice v x).setVoice v y = s.setVoice v y := by
  cases v <;> rfl

/-- What an offer can do: start on a QUIET voice, join a queue with room, take the place of the youngest entry of lower
priority, or be dropped (R104, R109). -/
theorem State.offer_cases (v : VoiceId) (e : Entry) :
    ((s.voice v).current = none ∧ s.offer v e = (s.startEntry v e, true)) ∨
    (∃ c, (s.voice v).current = some c ∧
      (((s.voice v).queue.length < 6 ∧
          s.offer v e = (s.setVoice v { s.voice v with queue := (s.voice v).queue ++ [e] }, true)) ∨
        (6 ≤ (s.voice v).queue.length ∧ (∃ d, youngestBelow e.priority (s.voice v).queue = some d ∧
          s.offer v e = ((s.setVoice v { s.voice v with
            queue := withoutYoungestBelow e.priority (s.voice v).queue ++ [e] }).endEntry false d .dropped, true))) ∨
        (6 ≤ (s.voice v).queue.length ∧ youngestBelow e.priority (s.voice v).queue = none ∧
          s.offer v e = (s.endEntry false e .dropped, false)))) := by
  cases hc : (s.voice v).current with
  | none => exact .inl ⟨rfl, by simp [State.offer, hc]⟩
  | some c =>
    refine .inr ⟨c, rfl, ?_⟩
    by_cases hl : (s.voice v).queue.length < 6
    · exact .inl ⟨hl, by simp [State.offer, hc, hl, Config.speechQueueLimit]⟩
    · refine .inr ?_
      cases hd : youngestBelow e.priority (s.voice v).queue with
      | some d => exact .inl ⟨Nat.le_of_not_lt hl, d, rfl, by simp [State.offer, hc, hl, hd, Config.speechQueueLimit]⟩
      | none => exact .inr ⟨Nat.le_of_not_lt hl, rfl, by simp [State.offer, hc, hl, hd, Config.speechQueueLimit]⟩

/-- What follows the end of an utterance: QUIET, the queue's head started, or the resume stack's top resumed (R116). -/
theorem State.chooseNext_cases (v : VoiceId) :
    (queueHead (s.voice v).queue = none ∧ (s.voice v).stack = [] ∧
      s.chooseNext v = s.setVoice v { s.voice v with current := none, buffer := [], rendering := .silence }) ∨
    (∃ e, queueHead (s.voice v).queue = some e ∧ (∀ c, (s.voice v).stack.head? = some c → c.entry.priority < e.priority) ∧
      s.chooseNext v = (s.setVoice v { s.voice v with queue := queueRest (s.voice v).queue }).startEntry v e) ∨
    (∃ c rest, (s.voice v).stack = c :: rest ∧ (∀ e, queueHead (s.voice v).queue = some e → e.priority ≤ c.entry.priority) ∧
      s.chooseNext v = (s.setVoice v { s.voice v with stack := rest }).begin v c.resumed) := by
  unfold State.chooseNext
  dsimp only
  split
  · rename_i h1 h2; exact .inl ⟨h1, h2, rfl⟩
  · rename_i e h1 h2; exact .inr (.inl ⟨e, h1, by simp [h2], rfl⟩)
  · rename_i c rest h1 h2; exact .inr (.inr ⟨c, rest, h2, by simp [h1], rfl⟩)
  · rename_i e c rest h1 h2
    split
    · refine .inr (.inr ⟨c, rest, h2, fun e' he => ?_, rfl⟩)
      rw [h1] at he; cases he; assumption
    · refine .inr (.inl ⟨e, h1, fun c' hc => ?_, rfl⟩)
      rw [h2] at hc; cases hc; omega

/-- What a frame boundary of a SOUNDING voice does: it ends the utterance, preempts it, or renders one frame (R112 to
R114). -/
theorem State.boundary_cases (v : VoiceId) :
    ((s.voice v).current = none ∧ s.boundary v = s) ∨
    (∃ c o, (s.voice v).current = some c ∧ c.place = .finished o ∧ (s.voice v).buffer = [] ∧
      s.boundary v = (s.endCurrent v o).renderFrame v) ∨
    (∃ c e, (s.voice v).current = some c ∧ queueHead (s.voice v).queue = some e ∧ c.entry.priority < e.priority ∧
      s.boundary v = (s.preempt v c e).renderFrame v) ∨
    (∃ c, (s.voice v).current = some c ∧ s.boundary v = s.renderFrame v) := by
  unfold State.boundary
  dsimp only
  split
  · rename_i h; exact .inl ⟨h, rfl⟩
  · rename_i c h
    split
    · rename_i o h1 h2; exact .inr (.inl ⟨c, o, h, h1, h2, rfl⟩)
    · split
      · rename_i e he
        split
        · exact .inr (.inr (.inl ⟨c, e, h, he, ‹_›, rfl⟩))
        · exact .inr (.inr (.inr ⟨c, h, rfl⟩))
      · exact .inr (.inr (.inr ⟨c, h, rfl⟩))

end Sys2Proof.Machine
end

