-- ==== Sys2Proof/Laws/Requests.lean ====
section
/-! SUPPORT. What every request does: the good frame is counted first, then the request is executed or turned away. -/

namespace Sys2Proof.Machine

variable (s : State)

/-- From s to t, only the Link Interface and records may have changed. -/
abbrev KeepsHeard (s t : State) : Prop := KeepsLine s t ∧ t.answer = s.answer

/-- Counting a request's good frame changes the Link Interface, and posts at most a LINK record (R134, R139). -/
@[simp] theorem State.heard_keeps : KeepsHeard s s.heard := by
  unfold State.heard State.frameEnds State.countGood
  dsimp only
  (repeat' split) <;> simp_all [KeepsHeard, KeepsLine]

/-- A transfer waiting or in flight depends on the port alone. -/
theorem State.hasTransfer_congr {s t : State} (h : t.port = s.port) (r : Requester) : t.hasTransfer r = s.hasTransfer r := by
  simp [State.hasTransfer, h]

/-- The arbiter changes nothing when it has nothing to grant (R98). -/
theorem State.grant_settled {s : State} (h : s.portSettled) : s.grant = s := by
  unfold State.grant
  split
  · rename_i t rest h1 h2; exact absurd (h h1) (by simp [h2])
  · rfl

/-- A frame event of a part that is reading a frame. -/
theorem frameEvent_hearing {s : State} (h : s.hearing = true) (act : State → State) :
    frameEvent s act = .next (act s).grant := by
  unfold State.hearing at h
  unfold frameEvent
  split <;> simp_all

/-- A request with the answer slot empty: the outcome is the run's state with its reply in the slot (R172). -/
theorem request_taken {s : State} (h : s.takesRequest) (run : State → State × Reply) :
    request s run = .next ((run s.heard).1.setAnswer (some (run s.heard).2)).grant := by
  obtain ⟨h1, h2, -⟩ := h
  unfold request
  rw [frameEvent_hearing h1]
  have h3 : s.heard.answer = none := by simp [h2]
  show Host.Outcome.next (s.heard.takeRequest run).grant = _
  simp only [State.takeRequest, h3]

/-- A request with the answer slot full: the flag is set and nothing is executed (R172). -/
theorem request_overrun {s : State} {r : Reply} (h1 : s.hearing = true) (h2 : s.answer = some r)
    (run : State → State × Reply) :
    request s run = .next (s.heard.setFlags { s.heard.flags with requestOverrun := true }).grant := by
  unfold request
  rw [frameEvent_hearing h1]
  have h3 : s.heard.answer = some r := by simp [h2]
  show Host.Outcome.next (s.heard.takeRequest run).grant = _
  simp only [State.takeRequest, h3]

end Sys2Proof.Machine
end

