-- ==== Sys2Proof/Laws/RoundFrames.lean ====
section
/-! SUPPORT. The frame of each of the Round Controller's operations and of link trouble. -/

namespace Sys2Proof.Machine

variable (s : State)

/-- From s to t, only what a grading reaches may have changed: what a round's events reach, and the Progress Table (R11). -/
abbrev KeepsGraded (s t : State) : Prop :=
  t.pending = s.pending ∧ t.laptop = s.laptop ∧ t.power = s.power ∧ t.scanner = s.scanner ∧ t.words = s.words ∧
  t.loader = s.loader ∧ t.previous = s.previous ∧ t.windows = s.windows ∧ t.setup = s.setup ∧ t.staged = s.staged ∧
  t.underruns = s.underruns ∧ t.mixer = s.mixer ∧ t.link = s.link ∧ t.roster = s.roster ∧ t.answer = s.answer

@[simp] theorem State.openSolo_keeps (w : Nat) : KeepsSpeech s (s.openSolo w) := by
  unfold State.openSolo; simp [KeepsSpeech]
@[simp] theorem State.guidedRefusal_keeps : KeepsSpeech s s.guidedRefusal := by
  unfold State.guidedRefusal; (repeat' split) <;> simp [KeepsSpeech]
@[simp] theorem State.landSolo_keeps (x : Nat) : KeepsSpeech s (s.landSolo x) := by
  unfold State.landSolo; simp [KeepsSpeech]
@[simp] theorem State.soloLetter_keeps (x : Nat) : KeepsSpeech s (s.soloLetter x) := by
  unfold State.soloLetter; (repeat' split) <;> simp [KeepsSpeech]
@[simp] theorem State.soloErase_keeps : KeepsSpeech s s.soloErase := by
  unfold State.soloErase; split <;> simp [KeepsSpeech]
@[simp] theorem State.sayAgain_keeps : KeepsSpeech s s.sayAgain := by
  unfold State.sayAgain; split <;> simp [KeepsSpeech]
@[simp] theorem State.giveHint_keeps : KeepsSpeech s s.giveHint := by
  unfold State.giveHint; (repeat' split) <;> simp [KeepsSpeech]
@[simp] theorem State.resultSpeech_keeps (g : Grade) (mark : Bool) : KeepsStore s (s.resultSpeech g mark).1 := by
  unfold State.resultSpeech; split <;> simp [KeepsStore]
@[simp] theorem State.updateBox_keeps (w : Nat) (g : Grade) : KeepsGraded s (s.updateBox w g) := by
  unfold State.updateBox; (repeat' split) <;> simp [KeepsGraded]
@[simp] theorem State.gradeSolo_keeps : KeepsGraded s s.gradeSolo := by
  unfold State.gradeSolo; simp [KeepsGraded]
@[simp] theorem State.soloDone_keeps : KeepsGraded s s.soloDone := by
  unfold State.soloDone; split <;> simp [KeepsGraded]
@[simp] theorem State.reviewDone_keeps : KeepsSpeech s s.reviewDone := by
  unfold State.reviewDone; split <;> simp [KeepsSpeech]
@[simp] theorem State.soloExpires_keeps : KeepsGraded s s.soloExpires := by
  unfold State.soloExpires; split <;> simp [KeepsGraded]
@[simp] theorem State.gradeCircle_keeps : KeepsSpeech s s.gradeCircle := by
  unfold State.gradeCircle; simp [KeepsSpeech]
@[simp] theorem State.keepPending_keeps (x : Nat) : KeepsPlay s (s.keepPending x) := by
  unfold State.keepPending; simp [KeepsPlay]
@[simp] theorem State.circleLetter_keeps (x : Nat) : KeepsPlay s (s.circleLetter x) := by
  unfold State.circleLetter; (repeat' split) <;> simp [KeepsPlay]
@[simp] theorem State.circleDone_keeps : KeepsPlay s s.circleDone := by
  unfold State.circleDone; (repeat' split) <;> simp [KeepsPlay]
@[simp] theorem State.openCircle_keeps (i : BitVec 16) (w t c : Nat) : KeepsSpeech s (s.openCircle i w t c) := by
  unfold State.openCircle; dsimp only; split <;> simp [KeepsSpeech]
@[simp] theorem State.takeDeal_keeps (own : Bool) (i : BitVec 16) (w t c : Nat) : KeepsPlay s (s.takeDeal own i w t c) := by
  unfold State.takeDeal; dsimp only; (repeat' split) <;> simp [KeepsPlay]
@[simp] theorem State.restartCircle_keeps : KeepsRound s s.restartCircle := by
  repeat' constructor
@[simp] theorem State.landOwn_keeps : KeepsSpeech s s.landOwn := by
  unfold State.landOwn; split <;> simp [KeepsSpeech]
@[simp] theorem State.landPeer_keeps (l x : Nat) : KeepsPlay s (s.landPeer l x) := by
  unfold State.landPeer; dsimp only; (repeat' split) <;> simp [KeepsPlay]
@[simp] theorem State.landSpectator_keeps (l x : Nat) : KeepsPlay s (s.landSpectator l x) := by
  unfold State.landSpectator; dsimp only; split <;> simp [KeepsPlay]
@[simp] theorem State.loseWord_keeps : KeepsPlay s s.loseWord := by
  unfold State.loseWord; dsimp only; split <;> simp [KeepsPlay]
@[simp] theorem State.takeLetter_keeps (own : Bool) (l t p x c : Nat) : KeepsPlay s (s.takeLetter own l t p x c) := by
  unfold State.takeLetter; (repeat' split) <;> simp [KeepsPlay]
@[simp] theorem State.takeClose_keeps (t n c : Nat) : KeepsPlay s (s.takeClose t n c) := by
  unfold State.takeClose; (repeat' split) <;> simp [KeepsPlay]
@[simp] theorem State.circleExpires_keeps : KeepsPlay s s.circleExpires := by
  unfold State.circleExpires; dsimp only; (repeat' split) <;> simp [KeepsPlay]
@[simp] theorem State.roundTroubled_keeps : KeepsPlay s s.roundTroubled := by
  unfold State.roundTroubled; dsimp only; (repeat' split) <;> simp [KeepsPlay]
@[simp] theorem State.becomeTroubled_keeps : KeepsPlay s s.becomeTroubled := by
  unfold State.becomeTroubled; simp [KeepsPlay]
@[simp] theorem State.discard_keeps (c : DiscardCause) : KeepsPlay s (s.discard c) := by
  unfold State.discard; dsimp only; split <;> simp [KeepsPlay]

end Sys2Proof.Machine
end

