-- ==== Sys2Proof/WellFormed.lean ====
section
/-! DEFINITION. When the operands of a command fit its row: the lengths of what a frame or a transfer carries, and the
field that tells two rows of one kind apart. -/

namespace Sys2Proof

/-- A REQUEST body is 1..11 bytes (Table 7-2), so at most 10 argument bytes follow the code. -/
def argsFit (args : List Byte) : Bool := args.length ≤ 10

/-- The kind byte's code, sender and role (Table 7-1). -/
def kindCode (kind : Byte) : Nat := kind.toNat / 16

/-- Whether a body of `n` bytes is one that Table 7-2 allows for the kind code. -/
def bodyAllowed (code n : Nat) : Bool :=
  match code with
  | 1 => n == 4
  | 2 => n == 5
  | 3 => n == 4
  | 4 => n == 3
  | 5 => decide (1 ≤ n ∧ n ≤ 11)
  | 6 => decide (2 ≤ n ∧ n ≤ 11)
  | 7 => decide (1 ≤ n ∧ n ≤ 11)
  | _ => false

/-- A frame that no other row stands for: a body of at most 12 bytes (R133), and not a BEAT, DEAL, LETTER or CLOSE of a
part with a length Table 7-2 allows (R136). A REQUEST, REPLY or REPORT may be another station's and stands here too. -/
def otherFrameFits (kind : Byte) (body : List Byte) : Bool :=
  decide (body.length ≤ 12) &&
    !(kind.toNat % 2 == 1 && decide (1 ≤ kindCode kind) && decide (kindCode kind ≤ 4) &&
        bodyAllowed (kindCode kind) body.length)

/-- Whether a command's operands fit its row. -/
def Instr.wellFormed : Instr → Bool
  | .setup args => argsFit args && (args.headD 0 == 0)
  | .setupStage args => argsFit args && (args.headD 0 != 0)
  | .loadList _ args => argsFit args
  | .startSolo args => argsFit args
  | .startCircle args => argsFit args
  | .endRound args => argsFit args
  | .say args => argsFit args
  | .spell args => argsFit args
  | .stop args => argsFit args
  | .status args => argsFit args
  | .progress args => argsFit args
  | .exclude args => argsFit args
  | .roster args => argsFit args
  | .restart args => argsFit args
  | .doze args => argsFit args
  | .unknownRequest code args => argsFit args && decide (code.toNat = 0 ∨ 14 < code.toNat)
  | .headerTransfer bytes => bytes.length == 5
  | .bodyTransfer bytes => decide (5 ≤ bytes.length ∧ bytes.length ≤ 20)
  | .phraseDirectoryFetch bytes => bytes.length == 3
  | .segmentDirectoryFetch bytes => bytes.length == 5
  | .romDescriptorFetch bytes => bytes.length == 20
  | .frameFetch bytes => bytes.length == 24
  | .quietGap cells => decide (1 ≤ cells)
  | .otherFrame _ kind body => otherFrameFits kind body
  | .reset _ | .countByteTransfer _ | .cartridgeRemoved | .ramDescriptorFetch => true
  | .frameBoundary _ | .samplePeriod _ _ | .scanPass _ => true
  | .letterKey | .eraseKey | .doneKey | .repeatKey | .hintKey | .otherKey => true
  | .roundTimerExpiry | .circleTimerExpiry | .beatTick | .rosterAgeOut => true
  | .keyWake | .linkWake | .settleEnd => true
  | .openingLow | .glitch | .frameOffer _ | .arbitrationLoss _ | .frameDiscard _ => true
  | .beatFrame _ _ _ _ _ | .dealFrame _ _ _ _ _ _ | .letterFrame _ _ _ _ _ _ | .closeFrame _ _ _ _ _ => true
  | .replyFrame _ | .reportFrame | .lowInGapWait => true

end Sys2Proof
end

