-- ==== Sys2Proof/Tests/Slice0.lean ====
section
/-! SUPPORT. The model's own tests: ill-formed operands refused, the manual's worked cases, and for each statement with
hypotheses concrete states that meet them, clause by clause. -/

namespace Sys2Proof.Tests

open Sys2Proof Sys2Proof.Machine

/-! ## WellFormed: an ill-formed term for each check -/

theorem test_wf_setup_part : (Instr.setup [1]).wellFormed = false ∧ (Instr.setup [0]).wellFormed = true := by decide
theorem test_wf_setupStage_part : (Instr.setupStage [0]).wellFormed = false ∧ (Instr.setupStage [4]).wellFormed = true := by
  decide
theorem test_wf_args_too_long : ∀ c ∈ [Instr.setup, .setupStage, .loadList true, .startSolo, .startCircle, .endRound, .say,
    .spell, .stop, .status, .progress, .exclude, .roster, .restart, .doze, .unknownRequest 99],
    (c (List.replicate 11 0)).wellFormed = false := by decide
theorem test_wf_unknown_code : (Instr.unknownRequest 14 []).wellFormed = false ∧ (Instr.unknownRequest 15 []).wellFormed = true := by
  decide
theorem test_wf_transfer_lengths : (Instr.headerTransfer [1, 2, 3, 4]).wellFormed = false ∧
    (Instr.bodyTransfer [1, 2, 3, 4]).wellFormed = false ∧ (Instr.phraseDirectoryFetch [1, 2]).wellFormed = false ∧
    (Instr.segmentDirectoryFetch [1, 2, 3, 4]).wellFormed = false ∧
    (Instr.romDescriptorFetch (List.replicate 19 0)).wellFormed = false ∧
    (Instr.frameFetch (List.replicate 23 0)).wellFormed = false := by decide
theorem test_wf_quiet_gap : (Instr.quietGap 0).wellFormed = false := by decide
theorem test_wf_other_frame_is_beat : (Instr.otherFrame 219 0x17 [0, 0, 0, 0]).wellFormed = false := by decide
theorem test_wf_other_frame_too_long : (Instr.otherFrame 219 0x50 (List.replicate 13 0)).wellFormed = false := by decide

/-! ## Small states -/

/-- The state a command leads to (the state itself should it lead to none). -/
def after (c : Instr) (s : State) : State :=
  match exec c s with
  | .next t => t
  | _ => s

/-- A run of a few commands. -/
def afterAll (cs : List Instr) (s : State) : State := cs.foldl (fun s c => after c s) s

/-- After reset, the letter table read over, the port idle, a frame being read. -/
def listening : State :=
  { State.reset with
    store := { State.reset.store with reader := none }
    port := { inFlight := none, waiting := [] }
    link := { State.reset.link with receiver := .inFrame 62 } }

/-- DOG, say-phrase 256, sentence 257 (04 worked rounds use such a record). -/
def dog : WordRecord := { letters := [4, 15, 7], sayPhrase := 256, sentence := some 257, usable := true }

/-- KITE, without a sentence. -/
def kite : WordRecord := { letters := [11, 9, 20, 5], sayPhrase := 258, sentence := none, usable := true }

/-- A word with a code outside 1..26. -/
def spoiled : WordRecord := { letters := [4, 31, 5], sayPhrase := 259, sentence := none, usable := false }

/-- Listening, with a list of three words. -/
def listed : State :=
  { listening with words := { state := .ready, identity := 0x0412, records := [dog, kite, spoiled] } }

/-- A round on DOG in a state, with letters landed and pending, circle tag 5. -/
def playing (x : RoundState) (landed pending : List Nat) : State :=
  { listed with
    attempt := { target := if x.holdsTarget then some 0 else none, landed := landed, pending := pending }
    judge := { listed.judge with
      rows := if x.holdsTarget then builtRows listed.judge.pairs [4, 15, 7] (landed ++ pending) else [] }
    round := { listed.round with
      state := x, kind := if x.circleOpen then some .circle else some .solo, word := some 0
      tag := if x.circleOpen then some 5 else none
      soloTimer := if x = .soloOpen then .running 60 else .stopped
      circleTimer := if x.circleOpen then .running 45 else .stopped } }

/-- A key code at the head of the Key Queue. -/
def pressed (s : State) (k : Nat) : State := { s with scanner := { s.scanner with queue := [k] } }

/-- A context of an own phrase. -/
def speech (priority tag : Nat) (place : WalkPlace) : Context :=
  { entry := { source := .own, priority := priority, start := .phrase 1, pitch := 2, tag := tag, markNo := none }
    pitch := 2, rate := .normal, chain := 1, place := place, restart := .start, rendered := true, yielded := true }

/-- A voice that speaks one context. -/
def sounding (c : Context) : Voice :=
  { current := some c, queue := [], stack := [], buffer := [], rendering := .silence }

/-- A transfer of a requester in flight and nothing waiting. -/
def carrying (s : State) (r : Requester) (kind : TransferKind) (discarded : Bool) : State :=
  { s with port := { inFlight := some { requester := r, kind := kind, discarded := discarded }, waiting := [] } }

/-- A frame of the station's own in flight. -/
def sends (s : State) (f : Frame) (place : TxPlace) : State :=
  { s with link := { s.link with inFlight := some { frame := f, place := place } } }

/-! ## Worked cases of the manual -/

/-- The rows of letters on a target, R0 first, as cells. -/
def cellsOf (t letters : List Nat) : List (List Nat) := (builtRows defaultPairs t letters).reverse.map (·.cells)

/-- FRIEND keyed F R E I N D (02 Table 2-2). -/
theorem test_friend_rows : cellsOf [6, 18, 9, 5, 14, 4] [6, 18, 5, 9, 14, 4] =
    [[0, 2, 4, 6, 8, 10, 12], [2, 0, 2, 4, 6, 8, 10], [4, 2, 0, 2, 4, 6, 8], [6, 4, 2, 2, 2, 4, 6],
     [8, 6, 4, 2, 1, 3, 5], [10, 8, 6, 4, 3, 1, 3], [12, 10, 8, 6, 5, 3, 1]] := by decide
theorem test_friend_lead : (builtRows defaultPairs [6, 18, 9, 5, 14, 4] [6, 18, 5, 9, 14, 4]).reverse.map (·.lead) =
    [0, 1, 2, 2, 4, 5, 6] := by decide

/-- FRIEND with the I erased and E keyed (02 section 2.11.1). -/
theorem test_friend_retyped :
    ((pushedRow defaultPairs [6, 18, 9, 5, 14, 4] (popRow (builtRows defaultPairs [6, 18, 9, 5, 14, 4] [6, 18, 5, 9])) 5).cells) =
      [8, 6, 4, 4, 2, 4, 6] := by decide

/-- DOG keyed B O G (02 Table 2-3), and its grade under close limits 2 and 1. -/
theorem test_dog_as_bog : cellsOf [4, 15, 7] [2, 15, 7] = [[0, 2, 4, 6], [2, 1, 3, 5], [4, 3, 1, 3], [6, 5, 3, 1]] := by decide
theorem test_grades : gradeOf 3 1 0 2 = .close ∧ gradeOf 3 2 0 1 = .wrong ∧ gradeOf 3 0 1 2 = .close ∧
    gradeOf 3 0 0 2 = .perfect ∧ gradeOf 0 6 0 2 = .abandoned := by decide

/-- CAT: a peer's K overtakes the pending A T (02 section 2.13). -/
theorem test_cat_overtaken :
    (pushedRow defaultPairs [3, 1, 20] (popRows 2 (builtRows defaultPairs [3, 1, 20] [3, 1, 20])) 11).cells = [4, 2, 2, 4] := by
  decide

/-- GUIDED DOG (02 section 2.14): B, B, P are refused, P with the reveal of D; then D is kept. -/
def guided : State := { playing .soloOpen [] [] with setup := { listed.setup with style := .guided } }
theorem test_guided_refusals :
    let s := afterAll [.letterKey, .letterKey, .letterKey] { guided with scanner := { guided.scanner with queue := [1, 1, 15] } }
    s.attempt.landed = [] ∧ s.round.misses = 0 ∧ s.round.assists = 1 ∧ s.judge.rows.length = 1 ∧
    (s.voiceA.current.toList.map (·.entry.start)) ++ s.voiceA.queue.map (·.start) =
      [.phrase 69, .phrase 59, .phrase 69, .phrase 59, .phrase 69, .phrase 4] := by decide
theorem test_guided_keeps_on : (after .letterKey (pressed guided 3)).attempt.landed = [4] := by decide

/-- The load of section 1.3.1, with CAT and the unusable D O (31) E, ended by a letter count of 0. -/
def loaded : State :=
  afterAll [.loadList true [], .headerTransfer [0xC7, 0x3A, 0x04, 0x12, 3], .countByteTransfer 3,
    .bodyTransfer [3, 1, 20, 0x01, 0x00, 0x01, 0x01], .countByteTransfer 4,
    .bodyTransfer [4, 15, 31, 5, 0x01, 0x02, 0xFF, 0xFF], .countByteTransfer 0] listening
theorem test_load_worked : loaded.words = { state := .ready, identity := 0x0412, records := [
      { letters := [3, 1, 20], sayPhrase := 256, sentence := some 257, usable := true },
      { letters := [4, 15, 31, 5], sayPhrase := 258, sentence := none, usable := false }] } ∧
    loaded.reports = [.list .truncated 2] ∧ loaded.port = { inFlight := none, waiting := [] } := by decide +kernel
theorem test_load_addresses :
    (afterAll [.loadList true [], .headerTransfer [0xC7, 0x3A, 0x04, 0x12, 3], .countByteTransfer 3,
      .bodyTransfer [3, 1, 20, 0x01, 0x00, 0x01, 0x01]] listening).port.inFlight =
      some { requester := .loader, kind := .countByte 13, discarded := false } := by decide
theorem test_header_list_of_200 :
    (afterAll [.loadList true [], .headerTransfer [0xC7, 0x3A, 1, 2, 200]] listening).loader =
      some { phase := .countByte, address := 5, wordCount := 200, toTake := 64, cut := true, identity := 0x0102 } := by decide

/-- The three choices of section 1.7.1. -/
def choosing : State :=
  { listed with
    words := { listed.words with records := List.replicate 5 dog ++ [spoiled] ++ List.replicate 2 dog }
    windows := [{ low := 6, high := 8 }, { low := 0, high := 0 }, { low := 0, high := 0 }, { low := 0, high := 0 }]
    previous := some 2
    progress := [⟨1, 4⟩, ⟨0, 2⟩, ⟨0, 7⟩, ⟨0, 7⟩, ⟨0, 2⟩, ⟨0, 9⟩, ⟨0, 12⟩, ⟨0, 0⟩] ++ List.replicate 56 ⟨0, 0⟩ }
theorem test_choice_first : choosing.choice = some 3 ∧
    (choosing.chose 3).progress.take 8 = [⟨1, 5⟩, ⟨0, 3⟩, ⟨0, 8⟩, ⟨0, 0⟩, ⟨0, 3⟩, ⟨0, 9⟩, ⟨0, 12⟩, ⟨0, 0⟩] := by decide
theorem test_choice_second : (choosing.chose 3).choice = some 2 := by decide
theorem test_choice_third :
    let s := ((choosing.chose 3).chose 2).updateBox 2 .perfect
    s.choice = some 1 ∧ (s.chose 1).progress.take 8 =
      [⟨1, 7⟩, ⟨0, 0⟩, ⟨1, 1⟩, ⟨0, 2⟩, ⟨0, 5⟩, ⟨0, 9⟩, ⟨0, 12⟩, ⟨0, 0⟩] := by decide

/-- The setup of section 9.3.1. -/
def staged3 : State :=
  { listening with staged := [[(2, 4), (16, 17), (13, 14), (3, 11)], [], [(2, 4), (1, 1), (9, 5), (40, 3)], []] }
theorem test_setup_stage_worked :
    (after (.setupStage [3, 2, 4, 1, 1, 9, 5, 40, 3]) listening).staged[2]? = some [(2, 4), (1, 1), (9, 5), (40, 3)] := by decide
theorem test_setup_pairs_worked :
    formPairs staged3.staged.flatten = ([(2, 4), (16, 17), (13, 14), (3, 11), (9, 5), (26, 3)], true) := by decide

/-- The mixer cases of Table 6-1. -/
theorem test_mixer_sums : mixed 1200 (-700) 16 8 6 = 637 ∧ mixed 1800 1500 16 16 8 = 3300 ∧ mixed 2047 0 16 0 8 = 2047 ∧
    mixed (-1001) 0 16 8 6 = -750 ∧ mixed 0 900 16 9 6 = 379 ∧ mixed 0 900 16 4 6 = 168 ∧ mixed (-2000) (-1800) 12 16 8 = -3300 := by
  decide
theorem test_mixer_clamps : clampSample 3300 = 2047 ∧ clampSample (-3300) = -2048 ∧ clampSample 2047 = 2047 := by decide

/-- The ghost at the fourth corner (section 3.3.1), eight passes. -/
theorem test_ghost_scan :
    let s := afterAll [.scanPass 0x3, .scanPass 0x103, .scanPass 0x303, .scanPass 0x303, .scanPass 0x303]
      { listening with round := { listening.round with state := .soloOpening } }
    s.scanner.queue = [0, 1, 8] ∧ s.scanner.ghostLock = [9] := by decide
theorem test_ghost_released :
    let s := afterAll [.scanPass 0x3, .scanPass 0x103, .scanPass 0x303, .scanPass 0x303, .scanPass 0x303, .scanPass 0x102,
      .scanPass 0x102, .scanPass 0x102] { listening with round := { listening.round with state := .soloOpening } }
    s.scanner.queue = [0, 1, 8] ∧ s.scanner.ghostLock = [] ∧ s.scanner.keys[0]? = some { state := .up, run := 0 } := by decide

/-- The LETTER frame of laptop 6 under tag 5 (07 worked frame), the class-0 precedence bytes of tag 5 (08 section 8.11.1),
and the prefix checks of TRAIN (08, R160). -/
theorem test_letter_frame_bytes :
    (TxEntry.frame { kind := .letter, body := [5, 1, 20, 20], sending := false } 6).bytes = [14, 61, 4, 5, 1, 20, 20, 131] := by
  decide
theorem test_precedence_bytes :
    [(1 : BitVec 3), 4, 6].map (fun l => (TxEntry.precedence { kind := .letter, body := [5], sending := false } l)) =
      [33, 60, 14] := by decide
theorem test_train_checks : [[20], [20, 18], [20, 18, 1], [20, 18, 1, 9], [20, 18, 1, 9, 14]].map prefixCheck =
    [20, 56, 59, 95, 165] := by decide

/-- KITE composed in slots 3 and 5 (section 5.4.1). -/
def sparse : State :=
  let held : Option Descriptor := some { pairs := [], link := 0 }
  { listed with store := {
      slots := [held, held, none, held] ++ List.replicate 20 none
      letters := ((((List.replicate 52 LetterEntry.none).set 10 (.sound ⟨18, 61⟩)).set 8 (.sound ⟨15, 59⟩)).set 19
        (.sound ⟨16, 70⟩)).set 4 (.sound ⟨14, 55⟩)
      reader := none } }
theorem test_compose_kite : (sparse.compose [11, 9, 20, 5]).2 = some { head := 3, letters := 4 } ∧
    (sparse.compose [11, 9, 20, 5]).1.store.slot 3 =
      some { pairs := [⟨18, 61⟩, ⟨15, 0⟩, ⟨15, 59⟩, ⟨15, 0⟩, ⟨16, 70⟩, ⟨15, 0⟩], link := 5 } ∧
    (sparse.compose [11, 9, 20, 5]).1.store.slot 5 =
      some { pairs := [⟨14, 55⟩, ⟨15, 0⟩, ⟨0, 0⟩, ⟨0, 0⟩, ⟨0, 0⟩, ⟨0, 0⟩], link := 0 } := by decide

/-! ## Witnesses: states and operands that meet the hypotheses of each statement, clause by clause -/

/-- Listening, with a REPLY in the answer slot. -/
def answered (code : Nat) : State :=
  { listening with answer := some { code := code, outcome := .done, adjusted := false, data := [] } }

/-- On a TROUBLED link with a good-frame count. -/
def troubled (s : State) (good : Nat) : State := { s with link := { s.link with state := .troubled, goodCount := good } }

/-- With the Roster entry of a peer. -/
def peered (s : State) (l age : Nat) : State :=
  { s with roster := s.roster.set l (some { identity := none, age := age, placed := 1, onLetters := 0, dealt := 0 }) }

/-- With a load in flight in a phase, after some records. -/
def loading (phase : LoadPhase) (records : List WordRecord) (toTake : Nat) : State :=
  { listening with
    words := { state := .loading, identity := 0, records := records }
    loader := some { phase := phase, address := 13, wordCount := toTake, toTake := toTake, cut := false, identity := 7 } }

/-- With an entry in the transmit queue. -/
def queued (s : State) (k : TxKind) (body : List Byte) : State :=
  { s with link := { s.link with queue := [{ kind := k, body := body, sending := false }] } }

/-- Six queued entries of priority 1. -/
def sixEntries : List Entry := List.replicate 6 (speech 1 0 (.phraseEntry 1)).entry

/-- Listening, with voice A speaking a context and holding a queue and a stack. -/
def speakingA (c : Context) (q : List Entry) (st : List Context) : State :=
  { listening with voiceA := { sounding c with queue := q, stack := st } }

theorem witness_StepTakesFrontCommand :
    ({ listening with pending := [.glitch] } : State).pending = [.glitch] ∧ listening.pending = [] := by decide
theorem witness_RequestFindsSlotFull :
    isRequest (.status []) = true ∧ (answered 9).hearing = true ∧ (answered 9).answer ≠ none ∧ (answered 9).portSettled ∧
    (answered 9).link.state = .clear ∧ (troubled (answered 9) 2).link.goodCount < 3 ∧
    (troubled (answered 9) 3).link.goodCount = 3 ∧ (troubled (answered 9) 3).link.state = .troubled ∧
    (troubled (answered 9) 3).answer ≠ none ∧ (troubled (answered 9) 3).reports.length < 16 ∧
    (sends (answered 9) (answerFrame 6 0 [9, 0]) .answer).link.inFlight ≠ none ∧
    16 ≤ ({ troubled (answered 9) 3 with reports := List.replicate 16 (.woke .key) } : State).reports.length := by decide
theorem witness_ReadingRequestsAnswered :
    listed.takesRequest ∧ (0 : Byte).toNat = 0 ∧ 14 < (15 : Byte).toNat ∧ listed.windows.length = 4 ∧
    (peered listed 2 0).takesRequest ∧ (rosterEntries (peered listed 2 0).roster)[byteAt [0] 0]? ≠ none ∧
    (rosterEntries (peered listed 2 0).roster).length ≤ byteAt [1] 0 := by decide
theorem witness_SetupReplacesValues :
    listed.takesRequest ∧ listed.round.state = .idle ∧ listed.words.state ≠ .loading ∧ byteAt [0, 2, 4] 0 = 0 ∧
    1 ≤ byteAt [1, 2, 4] 0 ∧ (playing .circleDealing [] []).takesRequest ∧ (playing .circleDealing [] []).words.state ≠ .loading ∧
    (playing .soloOpen [] []).takesRequest ∧ (playing .soloOpen [] []).round.state ≠ .idle ∧
    (loading .header [] 0).takesRequest ∧ (loading .header [] 0).words.state = .loading := by decide
theorem witness_PairTableFormed :
    (2, 4) ∈ [(2, 4)] ∧ clamp 1 26 2 ≠ clamp 1 26 4 ∧ (formPairs [(2, 4)]).1.length < 12 := by decide
theorem witness_StartSoloOpensRound :
    listed.takesRequest ∧ listed.round.state = .idle ∧ listed.words.state = .ready ∧ byteAt [1] 0 ≠ 255 ∧
    listed.wordAt (byteAt [1] 0) = some kite ∧ kite.usable = true ∧ listed.excluded (byteAt [1] 0) = false ∧
    listed.setup.voiceMode = .split ∧ listed.voiceFree .A := by decide
theorem witness_StartChecksInOrder :
    listed.takesRequest ∧ listed.round.state = .idle ∧ listed.words.state = .ready ∧ listed.setup.circle = true ∧
    byteAt [3] 0 ≠ 255 ∧ listed.words.records.length ≤ byteAt [3] 0 ∧ listed.usable (byteAt [2] 0) = false ∧
    (playing .soloReview [] []).takesRequest ∧ (playing .soloReview [] []).round.state ≠ .idle ∧
    listening.takesRequest ∧ listening.words.state = .empty := by decide
theorem witness_ChoicePicksLeastLearned :
    choosing.choice = some 3 ∧ choosing.previous = some 2 ∧ choosing.eligible 4 = true ∧ choosing.takesRequest ∧
    choosing.round.state = .idle ∧ choosing.words.state = .ready ∧ byteAt [255] 0 = 255 ∧ choosing.progress[63]? = some ⟨0, 0⟩ ∧
    listening.choice = none := by decide
theorem witness_StartCircleQueuesDeal :
    listed.takesRequest ∧ listed.round.state = .idle ∧ listed.words.state = .ready ∧ listed.setup.circle = true ∧
    listed.heard.link.state = .clear ∧ listed.link.countKind .deal = 0 ∧ byteAt [0] 0 ≠ 255 ∧
    listed.wordAt (byteAt [0] 0) = some dog ∧ dog.usable = true ∧ listed.excluded (byteAt [0] 0) = false ∧
    byteAt [255] 0 = 255 ∧ choosing.takesRequest ∧ choosing.round.state = .idle ∧ choosing.words.state = .ready ∧
    choosing.setup.circle = true ∧ choosing.heard.link.state = .clear ∧ choosing.link.countKind .deal = 0 ∧
    choosing.choice = some 3 ∧ choosing.wordAt 3 = some dog := by decide
theorem witness_EndRoundReturnsToIdle :
    listed.takesRequest ∧ listed.round.state = .idle ∧
    ∀ x ∈ [RoundState.soloOpening, .soloOpen, .soloReview, .circleDealing, .circleOpening, .circlePlayer, .circleSpectator,
      .circleLost], (playing x [] []).takesRequest ∧ (playing x [] []).round.state = x := by decide
theorem witness_SpeechRequestsOffer :
    listed.takesRequest ∧ listed.setup.voiceMode = .split ∧ listed.voiceFree .A ∧
    (speakingA (speech 1 0 (.phraseEntry 1)) (sixEntries.drop 1) []).takesRequest ∧
    (speakingA (speech 1 0 (.phraseEntry 1)) (sixEntries.drop 1) []).voiceA.queue.length < 6 ∧
    (speakingA (speech 1 0 (.phraseEntry 1)) (sixEntries.drop 1) []).voiceA.current ≠ none ∧
    6 ≤ (speakingA (speech 1 0 (.phraseEntry 1)) sixEntries []).voiceA.queue.length ∧
    (∀ d ∈ sixEntries, min 3 (byteAt [0, 1, 1, 5] 2) ≤ d.priority) := by decide
theorem witness_SpeechRequestsOffer_spell :
    (loading .header [] 0).words.state = .loading ∧ listening.words.state = .empty ∧ listening.takesRequest ∧
    listed.words.state = .ready ∧ listed.wordAt (byteAt [3, 9] 0) = none ∧ listed.wordAt (byteAt [2, 9] 0) = some spoiled ∧
    spoiled.usable = false ∧ listed.wordAt (byteAt [0, 9] 0) = some dog ∧ dog.usable = true ∧ dog.letters.length ≤ 3 ∧
    ({ slots := List.replicate 24 (some { pairs := [], link := 0 }), letters := [], reader := none } : Store).freeSlots = [] ∧
    listed.store.freeSlots.head? = some 1 := by decide
theorem witness_StopSilencesVoices :
    (speakingA (speech 1 7 (.phraseEntry 1)) [] []).takesRequest ∧ byteAt [0] 0 = 0 ∧
    (speakingA (speech 1 7 (.phraseEntry 1)) [] []).voiceA.current = some (speech 1 7 (.phraseEntry 1)) ∧
    (speech 1 7 (.phraseEntry 1)).entry.start = .phrase 1 ∧ (speech 1 7 (.phraseEntry 1)).entry.markNo = none := by decide

/-- Listening in a round's state whose marked utterance, number 3, voice A speaks. -/
def marked (x : RoundState) : State :=
  let c := speech 2 0 (.phraseEntry 54)
  let s := playing x [] []
  { s with
    voiceA := sounding { c with entry := { c.entry with source := .round, start := .phrase 54, markNo := some 3 } }
    round := { s.round with marked := some 3, marks := 4 } }
theorem witness_StopSilencesVoices_mark :
    (∀ x ∈ [RoundState.soloOpening, .circleOpening, .soloReview], (marked x).takesRequest ∧ (marked x).round.state = x ∧
      (marked x).round.marked = some 3 ∧ (marked x).voiceA.queue = [] ∧ (marked x).voiceA.stack = [] ∧
      (marked x).voiceA.current.map (·.entry.markNo) = some (some 3)) ∧
    (after (.stop [0]) (marked .soloOpening)).round.state = .soloOpen ∧
    (after (.stop [0]) (marked .circleOpening)).round.state = .circlePlayer ∧
    (after (.stop [0]) (marked .soloReview)).round.state = .idle := by decide

/-- The mark of a round already ended, still on voice A, ends without effect on the new round (R68). -/
theorem test_old_mark_has_no_effect :
    let s := { marked .soloOpening with round := { (marked .soloOpening).round with marked := some 4, marks := 5 } }
    (after (.stop [0]) s).round = s.round ∧ some 3 ≠ s.round.marked := by decide

/-- A frame in flight at END ROUND and at RESTART goes on to its end, and its sender hears it as its own (R141, R147, R170). -/
theorem test_frame_in_flight_goes_on :
    let f := dealOf 64 0 0x0412 0 5 3
    let s := sends { listed with round := { listed.round with state := .circleDealing, deal := some ⟨5, 0⟩ } } f .queue
    let ended := after (.endRound []) s
    ended.link.inFlight ≠ none ∧ (after (.restart []) s).link.inFlight ≠ none ∧ ended.round.state = .idle ∧
    ended.isOwn f = true ∧ (after (.dealFrame 64 0 0x0412 0 5 3) ended).round.state = .idle ∧
    (after (.dealFrame 64 0 0x0412 0 5 3) ended).round.lastTag = 5 := by decide
theorem witness_RestartEndsActivity : (playing .circlePlayer [4] [15]).takesRequest := by decide

/-- Slots 1 and 2 hold a spelling, slot 3 another; voice A speaks the first. -/
def spelling (place : WalkPlace) : State :=
  let c := speech 1 7 place
  { listed with
    voiceA := sounding { c with entry := { c.entry with start := .slot 1 } }
    store := { listed.store with
      slots := [some { pairs := [], link := 2 }, some { pairs := [], link := 0 }, some { pairs := [], link := 0 }] ++
        List.replicate 21 none } }
theorem witness_RestartEndsActivity_slots :
    let s := spelling (.phraseEntry 1)
    s.takesRequest ∧ s.store.slots.length = 24 ∧ s.store.chain 24 1 = [1, 2] ∧
    s.voiceA.current.map (·.entry.start) = some (.slot 1) ∧ 3 ∉ s.store.chain 24 1 ∧
    (after (.restart []) s).store.slot 1 = none ∧ (after (.restart []) s).store.slot 2 = none ∧
    (after (.restart []) s).store.slot 3 ≠ none := by decide
theorem witness_LoadBeginsAndIsCutOff :
    (playing .soloOpen [] []).takesRequest ∧ (playing .soloOpen [] []).round.state ≠ .idle ∧ listed.takesRequest ∧
    listed.round.state = .idle ∧ listed.words.state ≠ .loading ∧ listed.hasTransfer .loader = false ∧
    (carrying listed .loader (.countByte 13) true).takesRequest ∧
    (carrying listed .loader (.countByte 13) true).hasTransfer .loader = true ∧
    (loading .countByte [dog] 3).words.state = .loading ∧ (carrying listed .loader (.countByte 13) true).loader = none ∧
    TransferKind.isCountByte (.countByte 13) = true ∧ TransferKind.isBody (.body 14 8) = true := by decide
theorem witness_LoadBeginsAndIsCutOff_waiting :
    let s := carrying (loading .header [] 0) .loader (.body 14 8) true
    s.loader.map (·.phase) = some .header ∧ s.port.inFlight.map (·.discarded) = some true ∧
    s.port.waiting.any (fun u => u.requester == .loader) = false ∧
    (after (.bodyTransfer []) s).port.inFlight = some { requester := .loader, kind := .header, discarded := false } := by decide
theorem witness_HeaderChecked :
    (carrying (loading .header [] 0) .loader .header false).loader ≠ none ∧
    (carrying (loading .header [] 0) .loader .header false).port.inFlight =
      some { requester := .loader, kind := .header, discarded := false } ∧
    (carrying (loading .header [] 0) .loader .header false).port.waiting.any (fun t => t.requester == .loader) = false ∧
    ¬ ((0xC7 : Byte) = 0xC7 ∧ (0x3B : Byte) = 0x3A) ∧ (1 : Byte) ≠ 0 ∧ (255 : Byte) ≠ 0 := by decide
theorem witness_RecordTaken :
    (loading .countByte [] 3).loader ≠ none ∧ TransferKind.isCountByte (.countByte 13) = true ∧ 16 < (17 : Byte).toNat ∧
    (0 : Byte).toNat = 0 ∧ (16 : Byte).toNat ≤ 16 ∧ (loading .countByte [dog] 3).words.records ≠ [] ∧
    ((loading (.body 1) [dog] 2).loader.map (·.phase)) = some (.body 1) ∧ [(3 : Byte), 1, 0, 1, 1].length = 1 + 4 ∧
    (loading (.body 1) [dog] 3).words.records.length + 1 < 3 ∧ 2 ≤ (loading (.body 1) [dog] 2).words.records.length + 1 := by
  decide
theorem witness_SpellingTakesLowestSlots :
    sparse.store.slots.length = 24 ∧ [11, 9, 20, 5] ≠ [] ∧ sparse.store.freeSlots.head? = some 3 ∧
    ({ slots := List.replicate 24 (some { pairs := [], link := 0 }), letters := [], reader := none } : Store).freeSlots = [] := by
  decide

/-- The letter table read at a phrase. -/
def reading (phrase : Nat) (address : Option (BitVec 24)) : State :=
  { listening with store := { listening.store with reader := some { phrase := phrase, address := address } } }
theorem witness_LetterTableRead :
    (carrying (reading 52 none) .letterTable (.phraseDirectory 52) false).store.reader = some { phrase := 52, address := none } ∧
    (carrying (reading 52 none) .letterTable (.phraseDirectory 52) false).port.waiting.any (fun u => u.requester == .letterTable)
      = false ∧ TransferKind.isPhraseDirectory (.phraseDirectory 52) = true ∧ addressAt [255, 255, 255] 0 = 0xFFFFFF ∧
    addressAt [255, 255, 254] 0 ≠ 0xFFFFFF ∧ TransferKind.isRomDescriptor (.romDescriptor 7) = true ∧
    (51 : Nat) < 52 := by decide

/-- Voice A at a place of its walk with a transfer of its own in flight. -/
def walking (c : Context) (buffer : List Fetched) (kind : TransferKind) : State :=
  carrying { listening with voiceA := { sounding c with buffer := buffer } } (.voice .A) kind false
/-- A descriptor whose first pair has three frames of segment 2. -/
def d0 : Descriptor := { pairs := [⟨3, 2⟩, ⟨1, 0⟩, ⟨0, 0⟩, ⟨0, 0⟩, ⟨0, 0⟩, ⟨1, 5⟩], link := 0 }
/-- A silence frame. -/
def f0 : Fetched := { sound := .silence, point := .start }
theorem witness_WalkEntersDescriptors_phrase :
    let c := speech 1 0 (.phraseEntry 1)
    let s := walking { c with yielded := false } [] (.phraseDirectory 1)
    s.port.waiting.any (fun u => u.requester == .voice .A) = false ∧ (s.voice .A).buffer.length < 2 ∧
    (s.voice .A).current = some { c with yielded := false } ∧ c.yielded = true ∧ c.entry.markNo = none ∧
    (s.voice .A).queue = [] ∧ (s.voice .A).stack = [] ∧ (walking c [f0] (.phraseDirectory 1)).voiceA.buffer.length < 2 := by decide
theorem witness_WalkEntersDescriptors_descriptor :
    let c := speech 1 0 (.descriptor (.rom 7) 6 true)
    let s := walking c [] (.romDescriptor 7)
    (s.voice .A).current = some c ∧ TransferKind.isRomDescriptor (.romDescriptor 7) = true ∧
    1 ≤ byteAt (List.replicate 20 1) (3 * (6 - 1)) ∧ 1 ≤ word16At (List.replicate 20 1) (3 * (6 - 1) + 1) % 1024 ∧
    ({ s.store with slots := [some d0] } : Store).slot 1 = some d0 ∧ d0.pairs[1 - 1]? = some ⟨3, 2⟩ ∧
    TransferKind.ramSlot (.ramDescriptor 1) = some 1 := by decide
theorem witness_WalkFetchesFrames :
    let c := speech 1 0 (.pairs (.rom 7) d0 1 0 none)
    let e := speech 1 0 (.pairs (.rom 7) d0 1 0 (some (.run 0x100 2)))
    (walking c [] (.segmentDirectory 2)).voiceA.current = some c ∧ d0.pairs[1 - 1]? = some ⟨3, 2⟩ ∧
    addressAt [0, 1, 0, 0, 1] 0 ≠ 0xFFFFFF ∧ 1 ≤ word16At [0, 1, 0, 0, 1] 3 ∧ word16At [0, 1, 0, 0, 0] 3 = 0 ∧
    (walking e [f0] (.frame 0x100)).voiceA.buffer.length = 1 ∧ (walking e [] (.frame 0x100)).voiceA.buffer = [] ∧
    TransferKind.isFrame (.frame 0x100) = true ∧ 0 + 1 < 2 ∧ 0 + 1 < 3 := by decide

/-- Voice A at the last frame of a pair of a descriptor, in the chain's nth descriptor. -/
def leaving (ref : DescRef) (d : Descriptor) (pair chain : Nat) : State :=
  walking { speech 1 0 (.pairs ref d pair 2 (some (.run 0x100 3))) with chain := chain } [] (.frame 0x100)
/-- Where voice A's walk stands after the frame, and what it asks for. -/
def left (s : State) : Option WalkPlace × Option TransferKind :=
  let t := after (.frameFetch (List.replicate 24 0)) s
  (t.voiceA.current.map (·.place), t.port.inFlight.map (·.kind))
theorem witness_WalkFetchesFrames_leaving :
    let last (link : Nat) : Descriptor := { d0 with pairs := d0.pairs.take 1 ++ List.replicate 5 ⟨0, 7⟩, link := link }
    (∀ q ∈ (last 0).pairs.drop 1, q.length = 0) ∧ (last 0).pairs.length ≤ 6 ∧ min 3 3 ≤ 2 + 1 ∧
    left (leaving (.rom 7) (last 0) 1 1) = (some (.finished .complete), none) ∧
    left (leaving (.rom 7) (last 9) 1 16) = (some (.finished .cut), none) ∧
    left (leaving (.rom 7) (last 9) 1 15) = (some (.phraseEntry 9), some (.phraseDirectory 9)) ∧
    left (leaving (.ram 2) (last 9) 1 15) = (some (.descriptor (.ram 9) 1 false), some (.ramDescriptor 9)) := by decide
theorem witness_WalkFetchesFrames_skipping :
    let d : Descriptor := { d0 with pairs := [⟨3, 2⟩, ⟨0, 0⟩, ⟨2, 5⟩] }
    let e : Descriptor := { d0 with pairs := [⟨3, 2⟩, ⟨1, 0⟩] }
    (d.pairs.drop 1)[1]? = some ⟨2, 5⟩ ∧ (∀ z ∈ (d.pairs.drop 1).take 1, z.length = 0) ∧ (e.pairs.drop 1)[0]? = some ⟨1, 0⟩ ∧
    left (leaving (.rom 7) d 1 1) = (some (.pairs (.rom 7) d 3 0 none), some (.segmentDirectory 5)) ∧
    left (leaving (.rom 7) e 1 1) = (some (.pairs (.rom 7) e 2 1 none), none) := by decide
theorem witness_PortGrantsAndFrees :
    listening.waitingInOrder ∧ listening.port.inFlight = none ∧ (carrying listening .loader .header false).port.inFlight ≠ none ∧
    (carrying listening (.voice .A) (.frame 9) true).voiceA.current = none ∧ TransferKind.isFrame (.frame 9) = true ∧
    TransferKind.isFrame .header = false := by decide
theorem witness_PortGrantsAndFrees_sounding :
    let s := carrying { listening with voiceA := sounding (speech 1 0 (.phraseEntry 9)) } (.voice .A) (.frame 9) true
    s.voiceA.current.map (·.place) = some (.phraseEntry 9) ∧ s.voiceA.buffer.length < 2 ∧ s.port.waiting = [] ∧
    (after (.frameFetch []) s).port.inFlight =
      some { requester := .voice .A, kind := .phraseDirectory 9, discarded := false } := by decide
theorem witness_BoundaryRendersFrame :
    let c := speech 1 0 (.phraseEntry 1)
    let s := walking c [f0] (.phraseDirectory 1)
    s.portSettled ∧ (s.voice .A).current = some c ∧ s.hasTransfer (.voice .A) = true ∧ (s.voice .A).buffer.head? = some f0 ∧
    (walking c [] (.phraseDirectory 1)).voiceA.buffer = [] ∧ c.rendered = true ∧ (s.voice .B).current = none ∧
    ({ c with rendered := false } : Context).rendered = false := by decide
/-- Voice A with a full fetch buffer at a place of its walk, no transfer under way. -/
def full (place : WalkPlace) : State :=
  { listening with voiceA := { sounding (speech 1 0 place) with buffer := [f0, f0] } }
/-- Where voice A's walk stands after a boundary, what it asks for, and how many frames its buffer holds. -/
def advanced (s : State) : Option WalkPlace × Option TransferKind × Nat :=
  let t := after (.frameBoundary .A) s
  (t.voiceA.current.map (·.place), t.port.inFlight.map (·.kind), t.voiceA.buffer.length)
theorem witness_BoundaryRendersFrame_full :
    let run : SegEntry := .run 0x100 3
    let last (link : Nat) : Descriptor := { d0 with pairs := d0.pairs.take 1 ++ List.replicate 5 ⟨0, 7⟩, link := link }
    (full (.pairs (.rom 7) d0 1 2 (some run))).portSettled ∧ (last 0).pairs.length ≤ 6 ∧
    (full (.pairs (.rom 7) d0 1 2 (some run))).hasTransfer (.voice .A) = false ∧ d0.pairs[1 - 1]? = some ⟨3, 2⟩ ∧
    (full (.pairs (.rom 7) d0 1 2 (some run))).voiceA.queue = [] ∧
    advanced (full (.pairs (.rom 7) d0 1 2 (some run))) = (some (.pairs (.rom 7) d0 1 2 (some run)), some (.frame 0x130), 1) ∧
    advanced (full (.pairs (.rom 7) d0 1 2 (some .silent))) = (some (.pairs (.rom 7) d0 1 3 (some .silent)), none, 2) ∧
    advanced (full (.pairs (.rom 7) d0 1 3 (some run))) = (some (.pairs (.rom 7) d0 2 1 none), none, 2) ∧
    advanced (full (.pairs (.rom 7) d0 2 1 none)) = (some (.pairs (.rom 7) d0 6 0 none), some (.segmentDirectory 5), 1) ∧
    advanced (full (.pairs (.rom 7) (last 0) 1 3 (some run))) = (some (.finished .complete), none, 1) ∧
    advanced (full (.pairs (.rom 7) (last 9) 1 3 (some run))) =
      (some (.phraseEntry 9), some (.phraseDirectory 9), 1) ∧
    advanced (full (.pairs (.ram 2) (last 9) 1 3 (some run))) =
      (some (.descriptor (.ram 9) 1 false), some (.ramDescriptor 9), 1) := by decide
theorem witness_BoundaryRendersFrame_place : ∀ o : SpokenOutcome, (speech 1 0 (.phraseEntry 1)).place ≠ .finished o := by
  intro o h; cases h
theorem witness_BoundaryEndsUtterance :
    let c := speech 1 7 (.finished .complete)
    let d := speech 2 0 (.phraseEntry 1)
    let e := (speech 3 0 (.phraseEntry 1)).entry
    (speakingA c [] []).portSettled ∧ (speakingA c [] []).hasTransfer (.voice .A) = false ∧ c.entry.markNo = none ∧
    (speakingA c [e] [d]).voiceA.queue.head? = some e ∧ d.entry.priority < e.priority ∧
    (speakingA c [d.entry] [d]).voiceA.stack.head? = some d ∧ d.entry.priority ≤ d.entry.priority ∧ d.restart = .start ∧
    ({ d with restart := .pair (.rom 7) 1 2 } : Context).restart = .pair (.rom 7) 1 2 := by decide
/-- Voice A at the end of the marked utterance of a round's state. -/
def ending (x : RoundState) : State :=
  { marked x with voiceA := { (marked x).voiceA with
      current := (marked x).voiceA.current.map (fun c => { c with place := .finished .complete }) } }
theorem witness_BoundaryEndsUtterance_mark :
    (∀ x ∈ [RoundState.soloOpening, .circleOpening, .soloReview], (ending x).portSettled ∧ (ending x).round.state = x ∧
      (ending x).round.marked = some 3 ∧ (ending x).voiceA.queue = [] ∧ (ending x).voiceA.stack = [] ∧
      (ending x).voiceA.buffer = [] ∧ (ending x).voiceA.current.map (·.entry.markNo) = some (some 3)) ∧
    (after (.frameBoundary .A) (ending .soloOpening)).round.state = .soloOpen ∧
    (after (.frameBoundary .A) (ending .soloOpening)).round.soloTimer = .running 60 ∧
    (after (.frameBoundary .A) (ending .circleOpening)).round.state = .circlePlayer ∧
    (after (.frameBoundary .A) (ending .soloReview)).round.state = .idle ∧
    { (ending .soloOpening).round with marked := some 4 }.marked ≠ some 3 := by decide
theorem witness_BoundaryEndsUtterance_spelling :
    let s := spelling (.finished .complete)
    s.portSettled ∧ s.voiceA.buffer = [] ∧ s.voiceA.current.map (·.entry.start) = some (.slot 1) ∧
    s.voiceA.current.map (·.entry.markNo) = some none ∧ (after (.frameBoundary .A) s).store.slot 1 = none ∧
    (after (.frameBoundary .A) s).store.slot 2 = none ∧ (after (.frameBoundary .A) s).store.slot 3 ≠ none := by decide
/-- A request of voice A waits behind a transfer of voice B. -/
def waitingBehind (s : State) : State :=
  { s with port := {
      inFlight := some { requester := .voice .B, kind := .frame 9, discarded := false }
      waiting := [{ requester := .voice .A, kind := .segmentDirectory 2, discarded := false }] } }
theorem witness_BoundaryPreempts :
    let c := speech 1 0 (.pairs (.rom 7) d0 1 0 none)
    let e := (speech 2 0 (.phraseEntry 1)).entry
    let s := speakingA c [e] [c, c]
    s.portSettled ∧ (s.voice .A).current = some c ∧ (s.voice .A).queue.head? = some e ∧
    (s.voice .A).queue.tail = [] ∧ c.entry.priority < e.priority ∧
    (s.voice .A).stack.length = 2 ∧ (speakingA c [e] [c]).voiceA.stack.length < 2 ∧ (s.voice .A).stack.tail.head? = some c ∧
    ({ s.voiceA with buffer := [f0] } : Voice).buffer ≠ [] ∧ c.entry.markNo = none ∧
    (carrying s (.voice .A) (.frame 0x100) false).port.inFlight.any (fun t => t.requester == .voice .A) = true ∧
    (waitingBehind s).portSettled ∧ (waitingBehind s).port.waiting ≠ [] ∧
    (waitingBehind s).port.inFlight.any (fun t => t.requester == .voice .A) = false ∧
    (after (.frameBoundary .A) (waitingBehind s)).port.waiting =
      [{ requester := .voice .A, kind := .phraseDirectory 1, discarded := false }] := by decide
theorem witness_OffersAssignedAndOrdered :
    let c := speech 1 0 (.phraseEntry 1)
    let e := (speech 2 0 (.phraseEntry 1)).entry
    listening.setup.voiceMode = .split ∧
    ({ listening with setup := { listening.setup with voiceMode := .shared } } : State).setup.voiceMode = .shared ∧
    listening.voiceA.current = none ∧ (speakingA c [] []).voiceA.current ≠ none ∧
    (speakingA c (sixEntries.drop 1) []).voiceA.queue.length < 6 ∧ 6 ≤ (speakingA c sixEntries []).voiceA.queue.length ∧
    (∀ d ∈ sixEntries, (speech 1 0 (.phraseEntry 1)).entry.priority ≤ d.priority) ∧
    (speakingA c sixEntries []).voiceA.queue = sixEntries.take 5 ++ (speech 1 0 (.phraseEntry 1)).entry :: [] ∧
    (speech 1 0 (.phraseEntry 1)).entry.priority < e.priority ∧ e.priority ≤ 3 ∧
    (∀ d ∈ sixEntries, d.priority < e.priority) := by decide
theorem witness_MixerSample :
    let s := { listening with
      voiceA := { sounding (speech 1 0 (.phraseEntry 1)) with rendering := .frame [] }
      setup := { listening.setup with volume := 8 } }
    (after (.samplePeriod 2047 0) s).mixer = { clips := 0, output := 2047 } ∧
    (after (.samplePeriod 2047 2047) { s with voiceB := s.voiceA }).mixer = { clips := 1, output := 2047 } := by decide
theorem witness_ScanPassReadsKeys :
    let s := { listening with
      scanner := { keys := (listening.scanner.keys.set 0 { state := .up, run := 2 }).set 63 { state := .down, run := 2 },
                   queue := List.replicate 8 3 } }
    s.scannerFormed ∧ s.power ≠ .dozing ∧ s.scanner.keys[0]? = some { state := .up, run := 2 } ∧
    s.scanner.keys[63]? = some { state := .down, run := 2 } ∧ pressCandidates 1 s.scanner.keys = [0] ∧
    8 ≤ s.scanner.queue.length ∧ listening.scannerFormed ∧ pressCandidates 1 listening.scanner.keys = [] := by decide
/-- Keys 0, 1, 8 and 9 close together: 0, 1 and 8 become DOWN in that order, so 9, at the fourth corner, is BLOCKED; with room
for two codes the third sets KEY_OVERRUN (R51, R52, R54). -/
theorem witness_ScanPassReadsKeys_several :
    let up2 : KeyCell := { state := .up, run := 2 }
    let s := { listening with
      scanner := { keys := (((listening.scanner.keys.set 0 up2).set 1 up2).set 8 up2).set 9 up2, queue := List.replicate 6 3 } }
    s.scannerFormed ∧ s.power ≠ .dozing ∧ pressCandidates 0x303 s.scanner.keys = [0, 1, 8, 9] ∧
    (after (.scanPass 0x303) s).scanner.queue = List.replicate 6 3 ++ [0, 1] ∧
    (after (.scanPass 0x303) s).scanner.ghostLock = [9] ∧ (after (.scanPass 0x303) s).flags.keyOverrun = true := by decide
theorem witness_KeysNotUsed :
    (pressed listening 63).keyWaits 63 ∧ (pressed listening 63).portSettled ∧ (pressed listening 63).round.state = .idle ∧
    (pressed (playing .soloOpen [] []) 30).keyWaits 30 ∧ (pressed (playing .circleLost [] []) 25).keyWaits 25 ∧
    (pressed (playing .circleLost [] []) 25).freeToSpeak ∧ (pressed (playing .circleSpectator [] []) 26).keyWaits 26 ∧
    (pressed (playing .soloReview [] []) 28).keyWaits 28 ∧ (playing .circleOpening [] []).round.state = .circleOpening := by decide
theorem witness_SoloLetterLands :
    (pressed (playing .soloOpen (List.replicate 19 4) []) 25).keyWaits 25 ∧
    (pressed (playing .soloOpen (List.replicate 19 4) []) 25).freeToSpeak ∧
    (playing .soloOpen (List.replicate 19 4) []).attempt.landed.length < 20 ∧
    (playing .soloOpen (List.replicate 19 4) []).setup.style ≠ .guided ∧
    20 ≤ (playing .soloOpen (List.replicate 20 4) []).attempt.landed.length := by decide
theorem witness_GuidedRefusesLetter :
    let s := pressed guided 1
    s.keyWaits 1 ∧ s.freeToSpeak ∧ s.setup.style = .guided ∧
    (pushedRow s.judge.pairs s.targetLetters s.judge.rows 2).frontier ≠ 0 ∧ s.round.state = .soloOpen ∧ s.round.misses < 2 ∧
    (s.setMisses 2).round.misses = 2 ∧ s.hintLetter = some 4 ∧ (playing .soloOpen [4, 15, 7] []).hintLetter = none ∧
    (playing .circlePlayer [4] [15]).hasEntry .close = false ∧ (playing .circlePlayer [4] [15]).attempt.pending.length < 3 := by
  decide
theorem witness_EraseRepeatHint :
    (pressed (playing .soloOpen [4] []) 26).keyWaits 26 ∧ (pressed (playing .soloOpen [4] []) 26).freeToSpeak ∧
    2 ≤ (playing .soloOpen [4] []).judge.rows.length ∧ (playing .soloOpen [] []).attempt.landed = [] ∧
    (pressed (playing .circlePlayer [4] []) 26).keyWaits 26 ∧ (pressed (playing .soloOpen [4] []) 28).keyWaits 28 ∧
    (playing .soloOpen [4] []).round.word = some 0 ∧ (playing .soloOpen [4] []).wordAt 0 = some dog ∧
    (pressed (playing .soloOpen [4] []) 29).keyWaits 29 ∧ (playing .soloOpen [4] []).hintLetter = some 15 ∧
    (playing .soloOpen [4] []).round.hints < 3 ∧ (playing .soloOpen [4, 15, 7] []).hintLetter = none := by decide
theorem witness_DoneGradesAndEndsReview :
    (pressed (playing .soloOpen [4, 15, 7] []) 27).keyWaits 27 ∧ (pressed (playing .soloOpen [4, 15, 7] []) 27).freeToSpeak ∧
    (playing .soloOpen [4, 15, 7] []).grade = .perfect ∧ (playing .soloOpen [2, 15, 7] []).grade = .close ∧
    (playing .soloOpen [26, 26, 26] []).grade = .wrong ∧ (playing .soloOpen [2, 15, 7] []).progress[0]? = some ⟨0, 0⟩ ∧
    ((playing .soloOpen [2, 15, 7] []).compose [4, 15, 7]).2 = some { head := 1, letters := 3 } ∧
    (playing .soloOpen [2, 15, 7] []).targetLetters = [4, 15, 7] := by decide

/-- A review whose marked phrase voice A speaks. -/
def reviewing : State :=
  let c := speech 2 0 (.phraseEntry 54)
  let s := playing .soloReview [4, 15, 7] []
  { s with
    voiceA := sounding { c with entry := { c.entry with source := .round, start := .phrase 54, markNo := some 3 } }
    round := { s.round with marked := some 3, marks := 4 } }
theorem witness_DoneEndsReview :
    (pressed reviewing 27).keyWaits 27 ∧ reviewing.round.state = .soloReview ∧ reviewing.portSettled ∧
    reviewing.round.marked = some 3 ∧ reviewing.voiceA.queue = [] ∧ reviewing.voiceA.stack = [] ∧
    reviewing.voiceA.current.map (·.entry.markNo) = some (some 3) ∧ (after .doneKey (pressed reviewing 27)).round.state = .idle := by
  decide
theorem witness_CircleKeysQueueFrames :
    (pressed (playing .circlePlayer [4] [15, 7]) 0).keyWaits 0 ∧ (pressed (playing .circlePlayer [4] [15, 7]) 0).freeToSpeak ∧
    (playing .circlePlayer [4] [15, 7]).attempt.pending.length < 3 ∧ (playing .circlePlayer [4] [15, 7]).hasEntry .close = false ∧
    (playing .circlePlayer [4] [15, 7]).link.countKind .letter < 3 ∧ (playing .circlePlayer [4] [15, 7]).round.tag = some 5 ∧
    3 ≤ (playing .circlePlayer [4] [15, 7, 1]).attempt.pending.length ∧
    20 ≤ (playing .circlePlayer (List.replicate 20 4) []).attempt.count ∧
    (queued (playing .circlePlayer [4] []) .close [5, 1, 4]).hasEntry .close = true ∧
    (playing .circlePlayer [] []).attempt.count = 0 ∧ (pressed (playing .circlePlayer [4] []) 27).keyWaits 27 := by decide
/-- No free slot of the Utterance Store. -/
def slotless (s : State) : State :=
  { s with store := { s.store with slots := List.replicate 24 (some { pairs := [], link := 0 }) } }
theorem witness_RoundTimersExpire :
    (playing .soloOpen [] []).portSettled ∧ (playing .soloOpen [] []).round.soloTimer ≠ .stopped ∧
    (playing .soloOpen [4, 15, 7] []).grade = .perfect ∧ (playing .soloOpen [4, 15, 7] []).freeToSpeak ∧
    listed.round.state ≠ .soloOpen ∧ (playing .circleLost [4] []).freeToSpeak ∧
    (playing .circleLost [4] []).round.circleTimer ≠ .stopped ∧ (playing .circleOpening [] []).attempt.landed = [] ∧
    (playing .circlePlayer [2, 15, 7] []).grade = .close ∧ (playing .circlePlayer [2, 15, 7] []).attempt.pending = [] ∧
    ((playing .circlePlayer [2, 15, 7] []).compose [4, 15, 7]).2 ≠ none ∧ (playing .circlePlayer [4, 15, 7] []).grade = .perfect ∧
    (playing .soloOpen [2, 15, 7] []).grade = .close ∧ (playing .soloOpen [26, 26, 26] []).grade = .wrong ∧
    (playing .soloOpen [2, 15, 7] []).progress[0]? = some ⟨0, 0⟩ ∧ (playing .soloOpen [2, 15, 7] []).freeToSpeak ∧
    (playing .soloOpen [2, 15, 7] []).round.word = some 0 ∧ (playing .soloOpen [2, 15, 7] []).targetLetters = [4, 15, 7] ∧
    ((playing .soloOpen [2, 15, 7] []).compose [4, 15, 7]).2 = some { head := 1, letters := 3 } ∧
    (slotless (playing .soloOpen [2, 15, 7] [])).freeToSpeak ∧
    ((slotless (playing .soloOpen [2, 15, 7] [])).compose [4, 15, 7]).2 = none := by decide
theorem witness_BeatTimerAgesRoster :
    listening.power = .awake ∧ listening.setup.beat = true ∧ agedOut (peered (peered listening 3 2) 5 1).roster = [3] ∧
    ({ listening with setup := { listening.setup with beat := false } } : State).setup.beat = false ∧
    ({ listening with power := .dozing } : State).power ≠ .awake := by decide
theorem witness_DozeAndWake :
    let s := sends (answered 14) (answerFrame 6 0 [14, 0]) .answer
    s.hearing = true ∧ s.portSettled ∧ s.voiceA.current = none ∧ s.voiceB.current = none ∧ s.quietVoicesEmpty ∧
    (after (.replyFrame false) s).power = .dozing ∧ (after .keyWake (after (.replyFrame false) s)).power = .settling .key ∧
    (after (.replyFrame true) s).power = .settling .key := by decide
theorem witness_ReceiverFollowsLine :
    let s := State.reset
    s.link.receiver = .gapWait 0 ∧ 0 + 15 < 16 ∧ 16 ≤ 0 + 16 ∧ s.link.queue = [] ∧ s.answer = none ∧ s.reports = [] ∧
    (s.setReceiver .ready).link.receiver = .ready ∧ (s.setReceiver (.inFrame 11)).link.inFlight = none ∧
    (s.setReceiver .off).link.receiver = .off := by decide
theorem witness_FrameOfferedInOrder :
    let s := (answered 9).setReceiver .ready
    let q := queued s .letter [5, 1, 4, 4]
    s.link.inFlight = none ∧ s.link.receiver = .ready ∧ s.answer ≠ none ∧
    q.link.queue.find? (fun e => e.kind == .letter || e.kind == .close) ≠ none ∧
    (queued s .deal [4, 18, 0, 1, 3]).link.queue.find? (fun e => e.kind == .deal) ≠ none ∧
    (queued (listening.setReceiver (.inFrame 0)) .beat [0, 0, 0, 0]).reports = [] ∧
    ({ listening with reports := [.woke .key] } : State).reports.head? = some (.woke .key) ∧ 2 ≤ 2 := by decide
theorem witness_FramesFormed : (7 : Nat) ≤ 7 ∧ (1 : BitVec 3) ≠ 4 := by decide
theorem witness_ArbitrationLostOnOne :
    let f := TxEntry.frame { kind := .beat, body := [0, 0, 0, 0], sending := true } 4
    (sends listening f .queue).link.inFlight ≠ none ∧ listening.link.receiver = .inFrame 62 ∧ f.sendsOne 83 = true ∧
    f.sendsOne 62 = false ∧ f.bytes[0]? = some 228 ∧ f.sendsOne 13 = true := by decide
theorem witness_DiscardsAndLinkTrouble :
    let s := { listening with link := { listening.link with badRun := 5 } }
    let p := { playing .circlePlayer [4] [15] with link := { listening.link with badRun := 5 } }
    listening.hearing = true ∧ listening.portSettled ∧ min 15 (listening.link.badRun + 1) < listening.setup.threshold ∧
    s.link.state = .clear ∧ s.setup.threshold ≤ min 15 (s.link.badRun + 1) ∧ s.freeToSpeak ∧ s.reports.length < 15 ∧
    s.round.state = .idle ∧ p.freeToSpeak ∧ p.hearing = true ∧ p.round.state = .circlePlayer ∧
    (troubled listening 3).link.state = .troubled ∧
    ({ listening with round := { listening.round with deal := some ⟨5, 0⟩, state := .circleDealing } } : State).round.deal ≠ none := by
  decide
theorem witness_OwnReplyAndReportLeave :
    let s := sends (answered 9) (answerFrame 6 0 [9, 0]) .answer
    s.hearing = true ∧ s.portSettled ∧ s.link.state = .clear ∧ s.link.inFlight ≠ none ∧ s.answer ≠ none ∧
    (sends (answered 3) (answerFrame 6 0 [3, 0]) .answer).answer ≠ none ∧
    (sends listening (answerFrame 7 0 [8, 0]) .report).link.inFlight ≠ none ∧
    (troubled s 3).link.state = .troubled ∧ 3 ≤ (troubled s 3).link.goodCount ∧ (troubled s 3).hearing = true ∧
    (after (.replyFrame false) (troubled s 2)).flags.linkTrouble = true ∧
    (after (.replyFrame false) (troubled s 2)).link.goodCount = 3 ∧
    (after (.replyFrame false) (troubled s 3)).flags.linkTrouble = false ∧
    (after (.replyFrame false) (troubled s 3)).link.state = .clear := by decide
theorem witness_PartFramesHeard :
    let f : Frame := { precedence := 192, kind := kindByte 1 0 1, body := bytes16 0 ++ [0, 0] }
    listening.hearing = true ∧ listening.portSettled ∧ listening.link.state = .clear ∧ listening.link.inFlight = none ∧
    listening.roster.length = 8 ∧ rosterAt (peered listening 7 1).roster 7 ≠ none ∧ rosterAt listening.roster 7 = none ∧
    (7 : BitVec 3) ≠ listening.laptop ∧ (0x1F : Byte).toNat / 2 % 8 = 7 ∧ (0x1F : Byte).toNat % 2 = 1 ∧
    (0x60 : Byte).toNat % 2 = 0 ∧ (0x11 : Byte).toNat / 2 % 8 = listening.laptop.toNat ∧
    (sends listening f .queue).link.inFlight = some { frame := f, place := .queue } ∧
    (sends listening { f with body := [] } .queue).link.inFlight.map (·.frame) ≠ some f := by decide
theorem witness_DealOpensCircleRound :
    listed.hearing = true ∧ listed.freeToSpeak ∧ listed.round.state = .idle ∧ listed.setup.circle = true ∧ listed.answer = none ∧
    ((listed.heardPart (dealOf 73 1 0x0412 0 5 3) 1).countDeal 1).link.state = .clear ∧ listed.words.state = .ready ∧
    listed.words.identity = 0x0412 ∧ listed.wordAt 0 = some dog ∧ dog.letters.length = 3 ∧ listed.excluded 0 = false ∧
    listed.isOwn (dealOf 73 1 0x0412 0 5 3) = false ∧ (1 : BitVec 3) ≠ listed.laptop ∧ listed.roster.length = 8 ∧
    listed.wordAt 3 = none ∧ (sends listed (dealOf 64 0 0x0412 0 5 3) .queue).isOwn (dealOf 64 0 0x0412 0 5 3) = true ∧
    (sends listed (dealOf 64 0 0x0412 0 5 3) .queue).hearing = true ∧
    (sends listed (dealOf 64 0 0x0412 0 5 3) .queue).portSettled := by decide
theorem witness_DealOpensCircleRound_tally :
    (peered listed 1 2).roster.length = 8 ∧ rosterAt (peered listed 1 2).roster 1 ≠ none ∧ rosterAt listed.roster 1 = none ∧
    (after (.dealFrame 73 1 0x0412 0 5 3) (peered listed 1 2)).roster[1]? =
      some (some { identity := none, age := 0, placed := 1, onLetters := 0, dealt := 1 }) := by decide
theorem witness_DealDecidesDealing :
    let d := { listed with round := { listed.round with state := .circleDealing, deal := some ⟨5, 0⟩ } }
    let f := dealOf 64 0 0x0412 0 5 3
    d.hearing = true ∧ d.round.deal = some ⟨5, 0⟩ ∧ (sends d f .queue).isOwn f = true ∧ d.isOwn f = false ∧
    (playing .soloOpen [] []).portSettled ∧ (playing .soloOpen [] []).round.state ≠ .idle ∧
    ({ listed with setup := { listed.setup with circle := false } } : State).setup.circle = false ∧
    (answered 14).link.inFlight = none ∧ (answered 14).answer.map (·.code) = some 14 := by decide
theorem witness_OwnLetterLands :
    let f := letterOf 0 0 5 2 15 34
    let s := sends (playing .circlePlayer [4] [15]) f .queue
    s.round.tag = some 5 ∧ s.hearing = true ∧ s.freeToSpeak ∧ s.round.state = .circlePlayer ∧ (5 : Byte).toNat = 5 ∧
    s.attempt.landed.length + 1 = 2 ∧ s.isOwn f = true ∧ s.attempt.pending.head? = some 15 ∧ s.judge.row (1 + 1) ≠ none := by decide
/-- A CLOSE behind the queued entries. -/
def queuedToo (s : State) : State :=
  { s with link := { s.link with queue := s.link.queue ++ [{ kind := .close, body := [5, 2, 20], sending := false }] } }
theorem witness_PeerLettersLand :
    let s := playing .circlePlayer [4] [15]
    let o := playing .circleSpectator [4] []
    let u := s.heardPart (letterOf 9 1 5 2 26 56) 1
    s.hearing = true ∧ s.freeToSpeak ∧ s.voiceFree .B ∧ s.round.tag = some 5 ∧ 26 ≤ 26 ∧ 2 = s.attempt.landed.length + 1 ∧
    (1 : BitVec 3) ≠ s.laptop ∧ s.isOwn (letterOf 9 1 5 2 26 56) = false ∧ 56 = prefixCheck (s.attempt.landed ++ [26]) ∧
    rosterAt u.roster 1 ≠ none ∧ u.hasEntry .letter = false ∧ u.hasEntry .close = false ∧
    ((queued s .letter [5, 2, 15, 34]).heardPart (letterOf 9 1 5 2 26 56) 1).hasEntry .letter = true ∧
    ((queued s .close [5, 2, 20]).heardPart (letterOf 9 1 5 2 26 56) 1).hasEntry .close = true ∧
    ((queued s .close [5, 2, 20]).heardPart (letterOf 9 1 5 2 26 56) 1).hasEntry .letter = false ∧ s.voiceFree .A ∧
    ((queuedToo (queued s .letter [5, 2, 15, 34])).heardPart (letterOf 9 1 5 2 26 56) 1).hasEntry .letter = true ∧
    ((queuedToo (queued s .letter [5, 2, 15, 34])).heardPart (letterOf 9 1 5 2 26 56) 1).hasEntry .close = true ∧
    (playing .circleOpening [4] []).round.state = .circleOpening ∧ (playing .circleOpening [4] []).voiceFree .B ∧
    (playing .circleOpening [4] []).portSettled ∧ s.portSettled ∧
    o.hearing = true ∧ o.portSettled ∧ o.setup.voiceMode = .split ∧ o.voiceFree .B ∧ o.attempt.pending = [] ∧
    o.round.tag = some 5 ∧ rosterAt (o.heardPart (letterOf 9 1 5 2 26 56) 1).roster 1 ≠ none := by decide
theorem witness_PeerLettersLand_ownNumber :
    let s := playing .circlePlayer [4] []
    let f := letterOf 9 0 5 2 26 56
    s.laptop = 0 ∧ (sends s f .queue).isOwn f = true ∧ s.attempt.pending = [] ∧ s.isOwn f = false ∧
    (after (.letterFrame 9 0 5 2 26 56) (sends s f .queue)).attempt.landed = [4, 26] ∧
    (after (.letterFrame 9 0 5 2 26 56) (sends s f .queue)).roster = s.roster := by decide
theorem witness_LetterIgnoredOrLost :
    let s := playing .circlePlayer [4] [15]
    s.hearing = true ∧ s.portSettled ∧ s.freeToSpeak ∧ s.round.tag = some 5 ∧ (5 : Byte).toNat = 5 ∧ (1 : Byte).toNat ≤ 1 ∧
    s.attempt.landed.length + 1 < (3 : Byte).toNat ∧ s.isOwn (letterOf 9 1 5 2 26 57) = false ∧
    (57 : Byte).toNat ≠ prefixCheck (s.attempt.landed ++ [26]) ∧ (playing .circleSpectator [4] []).round.tag = some 5 ∧
    (playing .circleSpectator [4] []).freeToSpeak ∧ (playing .circleLost [4] []).round.state = .circleLost ∧
    listed.round.state.circleOpen = false ∧ 20 < (21 : Byte).toNat ∧ 26 < (27 : Byte).toNat := by decide
theorem witness_CloseEndsCircleRound :
    let s := playing .circlePlayer [4, 15, 7] []
    s.hearing = true ∧ s.freeToSpeak ∧ s.round.tag = some 5 ∧ (3 : Byte).toNat = s.attempt.landed.length ∧
    (55 : Byte).toNat = prefixCheck s.attempt.landed ∧ s.attempt.pending = [] ∧ s.grade = .perfect ∧
    (54 : Byte).toNat ≠ prefixCheck s.attempt.landed ∧ (2 : Byte).toNat ≠ s.attempt.landed.length ∧
    (playing .circleLost [4] []).freeToSpeak ∧ (playing .circleSpectator [4] []).round.tag = some 5 := by decide
theorem witness_CloseEndsCircleRound_grades :
    let c := playing .circlePlayer [2, 15, 7] [1]
    let w := playing .circlePlayer [26, 26, 26] []
    c.grade = .close ∧ w.grade = .wrong ∧ c.rowsFollowAttempt ∧ c.attempt.pending ≠ [] ∧ (3 : Byte).toNat = c.attempt.landed.length ∧
    (53 : Byte).toNat = prefixCheck c.attempt.landed ∧ (156 : Byte).toNat = prefixCheck w.attempt.landed ∧
    (c.compose c.targetLetters).2 ≠ none ∧ ((slotless c).compose c.targetLetters).2 = none ∧ (slotless c).freeToSpeak ∧
    (after (.closeFrame 9 1 5 3 53) c).round.state = .idle ∧
    (after (.closeFrame 9 1 5 0 53) c).round.state = .circlePlayer ∧
    (after (.closeFrame 9 1 5 21 53) c).round.state = .circlePlayer ∧ (0 : Byte).toNat = 0 ∧ 20 < (21 : Byte).toNat := by decide
theorem witness_CellsBounded :
    let s := playing .circlePlayer [4] [15]
    s.rowsFollowAttempt ∧ s.attemptBounded ∧ s.targetLetters.length ≤ 16 ∧ s.judge.row 2 ≠ none ∧ 3 ≤ s.targetLetters.length ∧
    s.attempt.target.isSome = true := by decide
theorem witness_VerdictHintAndGrade : (1 : Nat) ≤ 1 ∧ (playing .soloOpen [4] []).judge.rows.head? ≠ none := by decide
theorem witness_ScoreIsDistance :
    let s := playing .circlePlayer [4, 15, 7] []
    s.rowsFollowAttempt ∧ s.attemptBounded ∧ s.attempt.target.isSome = true ∧ s.targetLetters.length ≤ 16 := by decide

/-- A circle player with one letter landed and one pending, and a beat tick to come. -/
def ticking : State := { playing .circlePlayer [4] [15] with pending := [.beatTick] }

theorem witness_RangesKeptByEveryStep : (∃ t, step ticking = .next t) ∧ ticking.countsInRange ∧ ticking.outputInRange ∧
    ticking.setupInRange ∧ ticking.pairsFormed ∧ ticking.windowsInRange ∧ ticking.progressInRange :=
  ⟨⟨_, rfl⟩, by decide⟩
theorem witness_CapacitiesKeptByEveryStep : (∃ t, step ticking = .next t) ∧ ticking.withinCapacity ∧ ticking.scannerFormed ∧
    ticking.transmitLimited ∧ ticking.rosterFormed ∧ ticking.noOwnEntry :=
  ⟨⟨_, rfl⟩, by unfold State.rosterFormed; decide⟩
theorem witness_VoicesAndPortKeptByEveryStep : (∃ t, step ticking = .next t) ∧ ticking.quietVoicesEmpty ∧
    ticking.stacksOrdered ∧ ticking.oneRequestEach ∧ ticking.waitingInOrder ∧ ticking.portSettled ∧ ticking.marksNumbered :=
  ⟨⟨_, rfl⟩, by unfold State.marksNumbered; decide⟩
theorem witness_RowsFollowAttemptAtEveryStep : (∃ t, step ticking = .next t) ∧ ticking.rowsFollowAttempt ∧
    ticking.attemptBounded ∧ ticking.tableFollowsState ∧ ticking.loadFollowsPhase ∧ ticking.loadsOutsideRounds ∧
    ticking.oneRequestEach ∧ ticking.loaderTransferFits :=
  ⟨⟨_, rfl⟩, by unfold State.loadFollowsPhase State.loaderTransferFits; decide⟩
theorem witness_FactsAndDozeKeptByEveryStep : (∃ t, step ticking = .next t) ∧ ticking.factsFollowState ∧
    ticking.dozeIsQuiet ∧ ticking.goesToDozeIdle :=
  ⟨⟨_, rfl⟩, by decide⟩

end Sys2Proof.Tests
end

section
/-! The List Loader's header transfer (R4, R6): how posts and grants pass the setters, what the two checks read, and the
end of the header transfer. -/

namespace Sys2Proof.Machine

variable (s : State)

/-! ## Posts and grants beside the setters -/

theorem State.post_setWords (x : WordTable) (r : Record) : (s.setWords x).post r = (s.post r).setWords x := by
  rw [State.post, State.post, apply_ite (State.setWords · x)]; rfl

theorem State.post_setLoader (x : Option Load) (r : Record) : (s.setLoader x).post r = (s.post r).setLoader x := by
  rw [State.post, State.post, apply_ite (State.setLoader · x)]; rfl

theorem State.post_setPort (x : Port) (r : Record) : (s.setPort x).post r = (s.post r).setPort x := by
  rw [State.post, State.post, apply_ite (State.setPort · x)]; rfl

/-- The arbiter changes the port alone, and what it grants depends on the port alone (R98). -/
theorem State.grant_of_port_eq {s t : State} (h : t.port = s.port) : t.grant = t.setPort s.grant.port := by
  unfold State.grant
  rw [h]
  split
  · rfl
  · rw [← h]; rfl

/-! ## The header's fields (Table 1-1) -/

theorem headerMarkGood_iff (a b c d n : Byte) : headerMarkGood [a, b, c, d, n] = true ↔ a = 0xC7 ∧ b = 0x3A := by
  simp [headerMarkGood, byteAt, ← BitVec.toNat_inj]

theorem headerCount_eq_zero_iff (a b c d n : Byte) : headerCount [a, b, c, d, n] = 0 ↔ n = 0 := by
  simp [headerCount, byteAt, ← BitVec.toNat_inj]

/-! ## The List Loader -/

/-- A load that ends BAD_MARK empties the Word Table and posts its record with count 0 (R6). -/
theorem State.endLoad_badMark (i : BitVec 16) :
    s.endLoad .badMark i =
      ((s.post (.list .badMark 0)).setLoader none).setWords { state := .empty, identity := 0, records := [] } := by
  rw [← State.post_setLoader, ← State.post_setWords]; rfl

/-- A loader without a transfer of its own asks for the one its phase calls for (R98). -/
theorem State.loaderAsks_of_free {s : State} {l : Load} (hl : s.loader = some l) (h : s.hasTransfer .loader = false) :
    s.loaderAsks = s.ask .loader l.asks := by
  simp [State.loaderAsks, hl, h]

/-- Once its transfer has ended, a loader without a waiting request has none at the port (R98). -/
theorem State.transferEnds_hasTransfer {s : State} {r : Requester}
    (h : s.port.waiting.any (fun t => t.requester == r) = false) : s.transferEnds.hasTransfer r = false := by
  simpa [State.hasTransfer, State.transferEnds] using h

theorem takeHeader_bad {bytes : List Byte} (h : headerMarkGood bytes = false ∨ headerCount bytes = 0) (l : Load) :
    takeHeader bytes l s = s.endLoad .badMark 0 := if_pos h

/-- A header that passes both checks gives the load its values, and the loader asks for the first count byte, at address 5
(R4). -/
theorem takeHeader_good {s : State} {bytes : List Byte} (hmark : headerMarkGood bytes = true)
    (hcount : headerCount bytes ≠ 0) (hfree : s.hasTransfer .loader = false) (l : Load) :
    takeHeader bytes l s =
      (s.ask .loader (.countByte 5)).setLoader (some {
        phase := .countByte, address := 5, wordCount := headerCount bytes, toTake := min 64 (headerCount bytes)
        cut := decide (64 < headerCount bytes), identity := headerIdentity bytes }) := by
  have hchecks : ¬ (headerMarkGood bytes = false ∨ headerCount bytes = 0) := by simp [hmark, hcount]
  rw [takeHeader, if_neg hchecks]
  exact State.loaderAsks_of_free (State.setLoader_loader _ _) hfree

/-- The loader's own header transfer ends: the header is checked, and the arbiter grants the next request (R4, R99). -/
theorem exec_headerTransfer {s : State} {l : Load} (hl : s.loader = some l)
    (hport : s.port.inFlight = some { requester := .loader, kind := .header, discarded := false }) (bytes : List Byte) :
    exec (.headerTransfer bytes) s = .next (takeHeader bytes l s.transferEnds).grant := by
  show execHeaderTransfer bytes s = _
  simp [execHeaderTransfer, transferEvent, hport, State.loaderTakes, hl]

/-- Settles O17, by the header's two checks: either one failing ends the load, and a header that passes both sets the load's
values and asks for the count byte. -/
theorem headerChecked : Obligations.HeaderChecked := by
  intro s l hl a b c d n hport hwaiting
  rw [exec_headerTransfer hl hport]
  constructor
  · intro hbad
    have hcheck : headerMarkGood [a, b, c, d, n] = false ∨ headerCount [a, b, c, d, n] = 0 := by
      rwa [← Bool.not_eq_true, headerMarkGood_iff, headerCount_eq_zero_iff]
    have hport : (s.transferEnds.endLoad .badMark 0).port = s.transferEnds.port := by simp [State.endLoad_badMark]
    rw [takeHeader_bad _ hcheck, State.grant_of_port_eq hport, State.endLoad_badMark, State.transferEnds,
      State.post_setPort]
    rfl
  · rintro ⟨ha, hb, hn⟩
    have hmark : headerMarkGood [a, b, c, d, n] = true := (headerMarkGood_iff a b c d n).mpr ⟨ha, hb⟩
    have hcount : headerCount [a, b, c, d, n] ≠ 0 := mt (headerCount_eq_zero_iff a b c d n).mp hn
    rw [takeHeader_good hmark hcount (State.transferEnds_hasTransfer hwaiting),
      State.grant_of_port_eq (State.setLoader_port _ _)]
    rfl

end Sys2Proof.Machine
end

section
/-! The choice rule (R16 to R18): the order it picks by, the words it picks among, and START SOLO with word 255. -/

namespace Sys2Proof.Machine

variable (s : State)

/-! ## The order of a choice -/

/-- The whole order of a choice: lower box, then greater rest, then lower number (R16, steps 2 to 4). -/
def State.precedes (s : State) (a b : Nat) : Prop :=
  (s.progressAt a).box < (s.progressAt b).box ∨
    ((s.progressAt a).box = (s.progressAt b).box ∧
      ((s.progressAt b).rest < (s.progressAt a).rest ∨ ((s.progressAt b).rest = (s.progressAt a).rest ∧ a < b)))

theorem State.better_iff (a b : Nat) :
    s.better a b = true ↔ (s.progressAt a).box < (s.progressAt b).box ∨
      ((s.progressAt a).box = (s.progressAt b).box ∧ (s.progressAt b).rest < (s.progressAt a).rest) := by
  simp [State.better]

theorem State.precedes_of_better {s : State} {a b : Nat} (h : s.better a b = true) : s.precedes a b := by
  rw [State.better_iff] at h
  exact h.imp_right fun ⟨hbox, hrest⟩ => ⟨hbox, .inl hrest⟩

theorem State.precedes_of_not_better {s : State} {a b : Nat} (hlt : a < b) (h : ¬ s.better b a = true) :
    s.precedes a b := by
  rw [State.better_iff] at h
  unfold State.precedes
  omega

theorem State.precedes_trans {s : State} {a b c : Nat} (hab : s.precedes a b) (hbc : s.precedes b c) :
    s.precedes a c := by
  unfold State.precedes at *
  omega

/-! ## The best word of a list -/

theorem State.best_eq_none {ws : List Nat} : s.best ws = none ↔ ws = [] := by
  cases ws with
  | nil => simp [State.best]
  | cons w ws => simp only [State.best]; (repeat' split) <;> simp

/-- The best word of a list is its head, or the best of the rest when that one comes before the head. -/
theorem State.best_cons_cases {s : State} {w p : Nat} {ws : List Nat} (h : s.best (w :: ws) = some p) :
    (ws = [] ∧ p = w) ∨
    ∃ b, s.best ws = some b ∧ ((s.better b w = true ∧ p = b) ∨ (¬ s.better b w = true ∧ p = w)) := by
  simp only [State.best] at h
  split at h
  · rename_i hnone
    exact .inl ⟨s.best_eq_none.mp hnone, (Option.some.inj h).symm⟩
  · rename_i b hb
    refine .inr ⟨b, hb, ?_⟩
    split at h
    · exact .inl ⟨‹_›, (Option.some.inj h).symm⟩
    · exact .inr ⟨‹_›, (Option.some.inj h).symm⟩

theorem State.best_mem {s : State} {ws : List Nat} {p : Nat} (h : s.best ws = some p) : p ∈ ws := by
  induction ws generalizing p with
  | nil => simp [State.best] at h
  | cons w ws ih =>
    obtain ⟨-, rfl⟩ | ⟨b, hb, ⟨-, rfl⟩ | ⟨-, rfl⟩⟩ := State.best_cons_cases h
    · exact List.mem_cons_self
    · exact List.mem_cons_of_mem _ (ih hb)
    · exact List.mem_cons_self

/-- Over increasing numbers, the best word comes before every other one in the order of a choice (R16). -/
theorem State.best_precedes {s : State} {ws : List Nat} {p : Nat} (hsorted : ws.Pairwise (· < ·))
    (h : s.best ws = some p) : ∀ v ∈ ws, v ≠ p → s.precedes p v := by
  induction ws generalizing p with
  | nil => simp
  | cons w ws ih =>
    obtain ⟨hhead, htail⟩ := List.pairwise_cons.mp hsorted
    intro v hv hvp
    obtain ⟨rfl, rfl⟩ | ⟨b, hb, ⟨hbetter, rfl⟩ | ⟨hnot, rfl⟩⟩ := State.best_cons_cases h
    · exact absurd (List.mem_singleton.mp hv) hvp
    · obtain rfl | hv := List.mem_cons.mp hv
      · exact State.precedes_of_better hbetter
      · exact ih htail hb v hv hvp
    · have hfirst : s.precedes p b := State.precedes_of_not_better (hhead b (State.best_mem hb)) hnot
      obtain rfl | hv := List.mem_cons.mp hv
      · exact absurd rfl hvp
      · by_cases hvb : v = b
        · exact hvb ▸ hfirst
        · exact State.precedes_trans hfirst (ih htail hb v hv hvb)

/-! ## The words a choice picks among -/

theorem State.mem_eligibleWords (w : Nat) : w ∈ s.eligibleWords ↔ s.eligible w = true := by
  simp only [State.eligibleWords, List.mem_filter, List.mem_range, and_iff_right_iff_imp]
  simp +contextual [State.eligible]

theorem State.candidates_sublist : s.candidates.Sublist s.eligibleWords := by
  unfold State.candidates
  split
  · exact List.Sublist.refl _
  · dsimp only
    split
    · exact List.Sublist.refl _
    · exact List.filter_sublist

theorem State.candidates_sorted : s.candidates.Pairwise (· < ·) :=
  (List.pairwise_lt_range.filter _).sublist s.candidates_sublist

/-- The candidates are the eligible words but the previous choice, which stays only when no other word is eligible (R16,
step 1). -/
theorem State.mem_candidates (w : Nat) :
    w ∈ s.candidates ↔
      s.eligible w = true ∧ (s.previous = some w → ∀ v, s.eligible v = true → v = w) := by
  unfold State.candidates
  split
  case h_1 hprev => simp [hprev, s.mem_eligibleWords]
  case h_2 q hprev =>
    dsimp only
    split
    case isTrue halone =>
      have halone : ∀ v, s.eligible v = true → v = q := by
        simpa [List.filter_eq_nil_iff, s.mem_eligibleWords] using halone
      rw [s.mem_eligibleWords, hprev]
      refine ⟨fun hw => ⟨hw, fun hq v hv => ?_⟩, And.left⟩
      rw [halone v hv, halone w hw]
    case isFalse hothers =>
      obtain ⟨u, hu, huq⟩ : ∃ u, s.eligible u = true ∧ u ≠ q := by
        simpa [List.filter_eq_nil_iff, s.mem_eligibleWords] using hothers
      simp only [List.mem_filter, s.mem_eligibleWords, bne_iff_ne, hprev, Option.some.injEq]
      refine and_congr_right fun _ => ⟨fun hwq hq => absurd hq.symm hwq, fun halone hwq => huq ?_⟩
      rw [halone hwq.symm u hu, hwq]

theorem State.candidates_eq_nil : s.candidates = [] ↔ ∀ w, s.eligible w = false := by
  constructor
  · intro hnil w
    by_contra hw
    have hw : s.eligible w = true := by simpa using hw
    have hout : ∀ v, v ∉ s.candidates := by simp [hnil]
    have hprev : s.previous = some w := by
      by_contra hne
      exact hout w ((s.mem_candidates w).mpr ⟨hw, fun h => absurd h hne⟩)
    refine hout w ((s.mem_candidates w).mpr ⟨hw, fun _ v hv => ?_⟩)
    by_contra hvw
    refine hout v ((s.mem_candidates v).mpr ⟨hv, fun h => absurd (hprev.symm.trans h) ?_⟩)
    simpa using Ne.symm hvw
  · intro hnone
    refine List.eq_nil_iff_forall_not_mem.mpr fun w hw => ?_
    simpa [hnone w] using ((s.mem_candidates w).mp hw).1

/-! ## The choice -/

theorem State.choice_eq_none : s.choice = none ↔ ∀ w, s.eligible w = false := by
  rw [State.choice, s.best_eq_none, s.candidates_eq_nil]

theorem State.choice_mem_candidates {s : State} {p : Nat} (h : s.choice = some p) : p ∈ s.candidates :=
  State.best_mem h

theorem State.choice_precedes {s : State} {p : Nat} (h : s.choice = some p) :
    ∀ w ∈ s.candidates, w ≠ p → s.precedes p w :=
  State.best_precedes s.candidates_sorted h

/-- What is eligible depends on the Word Table and the exclusion windows alone (R15). -/
theorem State.eligible_congr {s t : State} (hwords : t.words = s.words) (hwindows : t.windows = s.windows) :
    t.eligible = s.eligible := by
  funext w
  simp [State.eligible, State.usable, State.wordAt, State.excluded, hwords, hwindows]

theorem State.best_congr {s t : State} (h : t.progress = s.progress) (ws : List Nat) : t.best ws = s.best ws := by
  have hbetter : t.better = s.better := by
    funext a b
    simp [State.better, State.progressAt, h]
  induction ws with
  | nil => rfl
  | cons w ws ih => simp only [State.best, ih, hbetter]

theorem State.candidates_congr {s t : State} (hwords : t.words = s.words) (hwindows : t.windows = s.windows)
    (hprevious : t.previous = s.previous) : t.candidates = s.candidates := by
  have heligible : t.eligibleWords = s.eligibleWords := by
    rw [State.eligibleWords, State.eligible_congr hwords hwindows, hwords]; rfl
  rw [State.candidates, State.candidates, heligible, hprevious]

/-- The choice depends on the Word Table, the windows, the Progress Table and the previous choice alone (R16). -/
theorem State.choice_congr {s t : State} (hwords : t.words = s.words) (hwindows : t.windows = s.windows)
    (hprogress : t.progress = s.progress) (hprevious : t.previous = s.previous) : t.choice = s.choice := by
  rw [State.choice, State.candidates_congr hwords hwindows hprevious, State.best_congr hprogress, State.choice]

/-- Counting a request's good frame leaves the choice as it was. -/
theorem State.heard_choice : s.heard.choice = s.choice :=
  State.choice_congr (by simp) (by simp) (by simp) (by simp)

theorem State.heard_eligible : s.heard.eligible = s.eligible := State.eligible_congr (by simp) (by simp)

theorem State.chose_previous (p : Nat) : (s.chose p).previous = some p := rfl

theorem State.chose_progress_length (p : Nat) : (s.chose p).progress.length = s.progress.length :=
  List.length_mapIdx

/-- A choice changes the rest of an entry and leaves its box (R16). -/
theorem State.restedEntry_eq (p w : Nat) (e : ProgressEntry) :
    s.restedEntry p w e = {
      box := e.box
      rest := if w = p then 0 else if s.eligible w then min 255 (e.rest + 1) else e.rest } := by
  unfold State.restedEntry
  split
  · rfl
  · split <;> rfl

theorem State.chose_progress_at {s : State} {w : Nat} {e : ProgressEntry} (h : s.progress[w]? = some e) (p : Nat) :
    (s.chose p).progress[w]? = some (s.restedEntry p w e) := by
  show (s.progress.mapIdx (s.restedEntry p))[w]? = _
  rw [List.getElem?_mapIdx, h]
  rfl

/-! ## START SOLO with word 255 -/

theorem State.startWord_choice {s : State} {p : Nat} (h : s.choice = some p) :
    s.startWord 255 = .ok (s.chose p, p) := by
  simp [State.startWord, choiceWord, h]

theorem State.soloCheck_ready {s : State} (hidle : s.round.state = .idle) (hready : s.words.state = .ready) :
    s.soloCheck = none := by
  simp [State.soloCheck, hidle, hready]

/-- START SOLO with word 255 opens the round on the word that the choice rule picks, after the choice's updates (R16, R66). -/
theorem exec_startSolo_choice {s : State} {args : List Byte} {p : Nat} (htakes : s.takesRequest)
    (hidle : s.round.state = .idle) (hready : s.words.state = .ready) (hword : byteAt args 0 = 255)
    (hchoice : s.choice = some p) :
    exec (.startSolo args) s = .next (((s.heard.chose p).openSolo p).setAnswer
      (some { code := 3, outcome := .started, adjusted := args.length != 1, data := [Byte.of p] })).grant := by
  have hcheck : s.heard.soloCheck = none := State.soloCheck_ready (by simpa using hidle) (by simpa using hready)
  have hstart : s.heard.startWord (byteAt args 0) = .ok (s.heard.chose p, p) := by
    rw [hword]
    exact State.startWord_choice (s.heard_choice.trans hchoice)
  show request s (startSoloRequest args) = _
  simp only [request_taken htakes, startSoloRequest, hcheck, hstart]
  rfl

/-- Settles O10: the picked word is a candidate that comes before every other one, and START SOLO opens its round on the
state with the choice's updates. -/
theorem choicePicksLeastLearned : Obligations.ChoicePicksLeastLearned := by
  refine ⟨fun s p hp => ?_, State.choice_eq_none, fun s args p htakes hidle hready hword hp => ?_⟩
  · obtain ⟨heligible, halone⟩ := (s.mem_candidates p).mp (State.choice_mem_candidates hp)
    refine ⟨heligible, ?_, fun w hw hwp hset => ?_⟩
    · rintro q hq ⟨w, hwq, hw⟩ rfl
      exact hwq (halone hq w hw)
    · exact State.choice_precedes hp w ((s.mem_candidates w).mpr ⟨hw, hset⟩) hwp
  · refine ⟨_, exec_startSolo_choice htakes hidle hready hword hp, ?_, ?_, ?_, fun w e he => ?_⟩
    · simp [State.chose_previous]
    · simp [State.chose_progress_length]
    · simp
    · have hheard : s.heard.progress[w]? = some e := by simpa using he
      simp [State.chose_progress_at hheard, State.restedEntry_eq, State.heard_eligible]

end Sys2Proof.Machine
end

section
/-! The row stack's cells (R24 to R27) and the final score (R46): what a push's candidates give, the bounds that each row
keeps, and where a row of the attempt stands. -/

namespace Sys2Proof.Machine

variable (table : List (Nat × Nat)) (t : List Nat)

/-! ## Substitution costs (R22) -/

theorem sub_le_two (x y : Nat) : sub table x y ≤ 2 := by unfold sub; (repeat' split) <;> simp

theorem sub_eq_zero_iff (x y : Nat) : sub table x y = 0 ↔ x = y := by unfold sub; (repeat' split) <;> simp [*]

/-! ## The candidates of a pushed cell (R26) -/

theorem targetLetter_succ {t : List Nat} {j : Nat} (h : j < t.length) : targetLetter t (j + 1) = t[j] := by
  simp [targetLetter, h]

theorem le_leastWith_iff {a c : Nat} {o : Option Nat} : c ≤ leastWith a o ↔ c ≤ a ∧ ∀ b ∈ o, c ≤ b := by
  cases o <;> simp [leastWith]

/-- A swap candidate stands in column 2 or later and is the cell two rows below and two columns before, plus 1 (R26). -/
theorem exists_of_mem_swapCandidate {x j c : Nat} {below : Row} {below2 : Option Row}
    (h : c ∈ swapCandidate t x below below2 j) : 2 ≤ j ∧ ∃ r ∈ below2, c = r.cell (j - 2) + 1 := by
  unfold swapCandidate at h
  split at h
  · obtain ⟨⟨hj, -⟩, hc⟩ := Option.ite_none_right_eq_some.mp h
    exact ⟨hj, _, rfl, (Option.some.inj hc).symm⟩
  · cases h

section
variable (x j : Nat) (below : Row) (below2 : Option Row)

theorem rowCell_zero : rowCell table t x below below2 0 = below.cell 0 + 2 := rfl

/-- A number is at most a pushed cell when it is at most each of its candidates (R26). -/
theorem le_rowCell_succ_iff (c : Nat) :
    c ≤ rowCell table t x below below2 (j + 1) ↔
      c ≤ below.cell j + sub table x (targetLetter t (j + 1)) ∧ c ≤ below.cell (j + 1) + 2 ∧
        c ≤ rowCell table t x below below2 j + 2 ∧ ∀ b ∈ swapCandidate t x below below2 (j + 1), c ≤ b := by
  rw [rowCell, le_leastWith_iff, le_min_iff, le_min_iff, and_assoc, and_assoc]

theorem rowCell_succ_le : rowCell table t x below below2 (j + 1) ≤ below.cell j + 2 := by
  obtain ⟨hsub, -⟩ := (le_rowCell_succ_iff table t x j below below2 _).mp le_rfl
  exact hsub.trans (Nat.add_le_add_left (sub_le_two table x _) _)

/-- Only a matching letter at no cost gives a pushed cell of 0: every other candidate adds to the cell it comes from. -/
theorem rowCell_succ_eq_zero_iff :
    rowCell table t x below below2 (j + 1) = 0 ↔ below.cell j = 0 ∧ x = targetLetter t (j + 1) := by
  have hswap : ∀ b ∈ swapCandidate t x below below2 (j + 1), 1 ≤ b := by
    intro b hb
    obtain ⟨-, r, -, rfl⟩ := exists_of_mem_swapCandidate t hb
    omega
  have hpos : 1 ≤ rowCell table t x below below2 (j + 1) ↔
      1 ≤ below.cell j + sub table x (targetLetter t (j + 1)) := by
    rw [le_rowCell_succ_iff]
    exact ⟨And.left, fun h => ⟨h, by omega, by omega, hswap⟩⟩
  rw [← sub_eq_zero_iff table x]
  omega

end

/-! ## The cells of a row -/

theorem rowZero_cell {m j : Nat} (h : j ≤ m) : (rowZero m).cell j = 2 * j := by
  simp [Row.cell, rowZero, List.getD_eq_getElem?_getD, Nat.lt_succ_of_le h]

theorem pushedRow_cell {t : List Nat} {j : Nat} (h : j ≤ t.length) (rows : List Row) (x : Nat) :
    (pushedRow table t rows x).cell j =
      rowCell table t x (rows.headD (rowZero t.length)) rows.tail.head? j := by
  simp [Row.cell, pushedRow, List.getD_eq_getElem?_getD, Nat.lt_succ_of_le h]

/-! ## The bounds of R27 on one row -/

/-- The cells of a row obey R27 for the letters that it measures against the target. -/
structure Row.Measures (row : Row) (t letters : List Nat) : Prop where
  upper : ∀ j ≤ t.length, row.cell j ≤ 2 * max letters.length j
  lower : ∀ j ≤ t.length, 2 * (letters.length - j) ≤ row.cell j ∧ 2 * (j - letters.length) ≤ row.cell j
  zero_iff : ∀ j ≤ t.length, row.cell j = 0 ↔ j = letters.length ∧ letters = t.take letters.length

theorem rowZero_measures : (rowZero t.length).Measures t [] where
  upper j hj := by simp [rowZero_cell hj]
  lower j hj := by simp [rowZero_cell hj]
  zero_iff j hj := by simp [rowZero_cell hj]

/-- A letter more is the beginning of the target when the letters before it are and it is the target's next one. -/
theorem append_singleton_eq_take_iff {t letters : List Nat} (h : letters.length < t.length) (x : Nat) :
    letters ++ [x] = t.take (letters.length + 1) ↔
      letters = t.take letters.length ∧ x = targetLetter t (letters.length + 1) := by
  rw [List.take_succ_eq_append_getElem h, List.append_singleton_inj, targetLetter_succ h]

section
variable {table t} {letters : List Nat} {x : Nat} {below : Row} {below2 : Option Row}

/-- The lower bound of R27 passes from the two rows below to a pushed cell, along the row: a swap reaches two rows down and
two columns back, so it keeps the difference between row and column. -/
theorem lower_le_rowCell (hbelow : below.Measures t letters)
    (hbelow2 : ∀ r ∈ below2, ∃ y front, letters = front ++ [y] ∧ r.Measures t front) {j : Nat} (hj : j ≤ t.length) :
    2 * (letters.length + 1 - j) ≤ rowCell table t x below below2 j ∧
      2 * (j - (letters.length + 1)) ≤ rowCell table t x below below2 j := by
  induction j with
  | zero =>
    obtain ⟨hrow, -⟩ := hbelow.lower 0 hj
    rw [rowCell_zero]
    omega
  | succ j ih =>
    obtain ⟨hleft, hleft'⟩ := ih (by omega)
    obtain ⟨hdiagonal, hdiagonal'⟩ := hbelow.lower j (by omega)
    obtain ⟨hunder, hunder'⟩ := hbelow.lower (j + 1) hj
    have hswap : ∀ b ∈ swapCandidate t x below below2 (j + 1),
        2 * (letters.length + 1 - (j + 1)) ≤ b ∧ 2 * (j + 1 - (letters.length + 1)) ≤ b := by
      intro b hb
      obtain ⟨hcolumn, r, hr, rfl⟩ := exists_of_mem_swapCandidate t hb
      obtain ⟨y, front, rfl, hfront⟩ := hbelow2 r hr
      obtain ⟨hcell, hcell'⟩ := hfront.lower (j + 1 - 2) (by omega)
      simp only [List.length_append, List.length_singleton]
      omega
    rw [le_rowCell_succ_iff, le_rowCell_succ_iff]
    exact ⟨⟨by omega, by omega, by omega, fun b hb => (hswap b hb).1⟩,
      by omega, by omega, by omega, fun b hb => (hswap b hb).2⟩

/-- A push keeps the bounds of R27: when the top row measures the letters, and the row under it all but the last of them, the
pushed row measures the letters with the new one. -/
theorem pushedRow_measures {rows : List Row} (hbelow : (rows.headD (rowZero t.length)).Measures t letters)
    (hbelow2 : ∀ r ∈ rows.tail.head?, ∃ y front, letters = front ++ [y] ∧ r.Measures t front) :
    (pushedRow table t rows x).Measures t (letters ++ [x]) where
  upper j hj := by
    rw [pushedRow_cell table hj, List.length_append, List.length_singleton]
    cases j with
    | zero =>
      have := hbelow.upper 0 hj
      rw [rowCell_zero]
      omega
    | succ j =>
      have := hbelow.upper j (by omega)
      have := rowCell_succ_le table t x j (rows.headD (rowZero t.length)) rows.tail.head?
      omega
  lower j hj := by
    rw [pushedRow_cell table hj, List.length_append, List.length_singleton]
    exact lower_le_rowCell hbelow hbelow2 hj
  zero_iff j hj := by
    rw [pushedRow_cell table hj, List.length_append, List.length_singleton]
    cases j with
    | zero => simp [rowCell_zero]
    | succ j =>
      rw [rowCell_succ_eq_zero_iff, hbelow.zero_iff j (by omega), Nat.add_right_cancel_iff, and_assoc]
      refine and_congr_right fun hlength => ?_
      subst hlength
      exact (append_singleton_eq_take_iff (by omega) x).symm

end

/-! ## The built stack (R24) -/

theorem builtRows_append_singleton (letters : List Nat) (x : Nat) :
    builtRows table t (letters ++ [x]) =
      pushedRow table t (builtRows table t letters) x :: builtRows table t letters := by
  simp [builtRows]

theorem builtRows_length (letters : List Nat) : (builtRows table t letters).length = letters.length + 1 := by
  induction letters using List.reverseRecOn with
  | nil => rfl
  | append_singleton letters x ih => simp [builtRows_append_singleton, ih]

/-- A built stack is never empty: R0 stays at its bottom. -/
theorem builtRows_top (letters : List Nat) (r : Row) :
    (builtRows table t letters)[0]? = some ((builtRows table t letters).headD r) := by
  have hpos : builtRows table t letters ≠ [] := List.ne_nil_of_length_eq_add_one (builtRows_length table t letters)
  obtain ⟨top, rows, hrows⟩ := List.exists_cons_of_ne_nil hpos
  rw [hrows]
  rfl

/-- The row k below the top of a built stack measures the letters but the last k. -/
theorem builtRows_measures {table : List (Nat × Nat)} {t letters : List Nat} {k : Nat} {row : Row}
    (h : (builtRows table t letters)[k]? = some row) : row.Measures t (letters.take (letters.length - k)) := by
  induction letters using List.reverseRecOn generalizing k row with
  | nil =>
    obtain ⟨rfl, rfl⟩ : k = 0 ∧ rowZero t.length = row := by simpa [builtRows, List.getElem?_singleton] using h
    exact rowZero_measures t
  | append_singleton letters x ih =>
    rw [builtRows_append_singleton] at h
    cases k with
    | zero =>
      obtain rfl : pushedRow table t (builtRows table t letters) x = row := by simpa using h
      rw [Nat.sub_zero, List.take_length]
      apply pushedRow_measures
      · simpa using ih (builtRows_top table t letters _)
      · intro r hr
        rw [List.head?_tail] at hr
        obtain rfl | ⟨front, y, rfl⟩ := List.eq_nil_or_concat' letters
        · simp [builtRows] at hr
        · exact ⟨y, front, rfl, by simpa using ih hr⟩
    | succ k =>
      have hk : letters.length - k ≤ letters.length := Nat.sub_le _ _
      rw [List.length_append, List.length_singleton, Nat.add_sub_add_right, List.take_append_of_le_length hk]
      exact ih (by simpa using h)

/-! ## The rows of the state's attempt (R24) -/

/-- Row Ri of the attempt's stack is there for its first i letters, and measures them against the target. -/
theorem State.row_measures {s : State} (hrows : s.rowsFollowAttempt) {i : Nat} {row : Row}
    (h : s.judge.row i = some row) :
    i ≤ s.attempt.letters.length ∧ row.Measures s.targetLetters (s.attempt.letters.take i) := by
  obtain ⟨-, hnone, hbuilt⟩ := hrows
  have hi : i < s.judge.rows.length := by
    simpa using (List.getElem?_eq_some_iff.mp h).1
  have htarget : s.attempt.target.isSome = true := by
    by_contra hempty
    simp [hnone (by simpa using hempty)] at hi
  rw [Judge.row, List.getElem?_reverse hi, hbuilt htarget, builtRows_length] at h
  rw [hbuilt htarget, builtRows_length] at hi
  have hcount : s.attempt.letters.length - (s.attempt.letters.length + 1 - 1 - i) = i := by omega
  exact ⟨by omega, hcount ▸ builtRows_measures h⟩

/-- While a target is held, every number up to that of the letters has its row. -/
theorem State.exists_row {s : State} (hrows : s.rowsFollowAttempt) (htarget : s.attempt.target.isSome = true) {i : Nat}
    (hi : i ≤ s.attempt.letters.length) : ∃ row, s.judge.row i = some row := by
  obtain ⟨-, -, hbuilt⟩ := hrows
  have hlength : i < s.judge.rows.reverse.length := by
    rw [List.length_reverse, hbuilt htarget, builtRows_length]
    omega
  exact ⟨_, List.getElem?_eq_getElem hlength⟩

/-- The final score is read from the landed letters' row (R46). -/
theorem State.score_of_row {s : State} {row : Row} (h : s.judge.row s.attempt.landed.length = some row) :
    s.score = row.cell s.targetLetters.length := by
  rw [State.score, h]

/-- Settles O52: each row of the stack measures the first letters of the attempt, of which there are at most 20, against at
most 16 letters of the target. -/
theorem cellsBounded : Obligations.CellsBounded := by
  rintro s hrows ⟨hcount, -, -⟩ htarget i j row hrow hj
  obtain ⟨hi, hmeasures⟩ := State.row_measures hrows hrow
  have hletters : s.attempt.letters.length ≤ 20 := by rwa [Attempt.letters, List.length_append]
  have hlength : (s.attempt.letters.take i).length = i := List.length_take_of_le hi
  have hupper := hmeasures.upper j hj
  have hlower := hmeasures.lower j hj
  have hzero := hmeasures.zero_iff j hj
  rw [hlength] at hupper hlower hzero
  exact ⟨by omega, hupper, hlower.1, hlower.2, hzero⟩

/-- Settles O53: the landed letters have a row, whatever is pending above it, and R27 at its last cell gives the range and
the zero. -/
theorem scoreIsDistance : Obligations.ScoreIsDistance := by
  intro s hrows hbounded htarget hlength
  obtain ⟨row, hrow⟩ := State.exists_row hrows htarget (i := s.attempt.landed.length) (by simp [Attempt.letters])
  obtain ⟨hrange, -, -, -, hzero⟩ := cellsBounded s hrows hbounded hlength _ _ row hrow le_rfl
  rw [State.score_of_row hrow]
  refine ⟨⟨row, hrow, rfl⟩, hrange, hzero.trans ?_⟩
  rw [Attempt.letters, List.take_left]
  constructor
  · rintro ⟨hsame, hbegins⟩
    rwa [← hsame, List.take_length] at hbegins
  · intro hsame
    rw [hsame]
    exact ⟨rfl, (List.take_length).symm⟩

end Sys2Proof.Machine
end

section
/-! What a step can do, said once for every property of states: `Parts` lists the changes that the commands are made of, each
with what is known of the state in which it happens, and `Kept` adds what the voices do. A property that survives all of these
survives every step (`Kept.exec`). -/

namespace Sys2Proof.Machine

/-! ## Operations as single updates -/

/-- Whether a load that ends so keeps the records it has taken (R6). -/
def LoadOutcome.keepsRecords : LoadOutcome → Bool
  | .absent | .badMark => false
  | .loaded | .truncated => true

/-- The state of a load's end before its LIST record is posted (R6, R10, R17). -/
def State.loadEnded (s : State) (o : LoadOutcome) (identity : BitVec 16) : State :=
  { s with
    loader := none
    progress := if o.keepsRecords then List.replicate Config.wordLimit { box := 0, rest := 0 } else s.progress
    previous := if o.keepsRecords then none else s.previous
    words :=
      if o.keepsRecords = true ∧ s.words.records ≠ [] then { s.words with state := .ready, identity := identity }
      else { state := .empty, identity := 0, records := [] } }

theorem State.endLoad_eq (s : State) (o : LoadOutcome) (i : BitVec 16) :
    s.endLoad o i = (s.loadEnded o i).post (.list o (s.loadEnded o i).words.records.length) := by
  by_cases h : s.words.records = [] <;> cases o <;>
    simp [State.endLoad, State.loadEnded, LoadOutcome.keepsRecords, h, State.setLoader, State.setWords, State.setProgress,
      State.setPrevious]

/-- A target taken in a round of the given kind and state, with the facts of a round just opened (R64, R66, R158). -/
abbrev State.opened (s : State) (kind : RoundKind) (word : Nat) (tag : Option Nat) (timer : Timer) (x : RoundState) : State :=
  ((s.openFacts kind word tag timer).takeTarget word).setRoundState x

/-- A circle round opened without a target (R158). -/
abbrev State.watched (s : State) (word tag : Nat) : State :=
  ((s.openFacts .circle word (some tag) (.running Config.circleSeconds)).clearAttempt).setRoundState .circleSpectator

/-- The pending letters and their rows removed (R37, R44). -/
abbrev State.pendingRemoved (s : State) : State :=
  ((s.setRows (popRows s.attempt.pending.length s.judge.rows)).setAttempt { s.attempt with pending := [] }).setMisses 0

theorem State.removePending_of_ne {s : State} (h : s.attempt.pending ≠ []) : s.removePending = s.pendingRemoved := if_neg h

theorem State.removePending_of_eq {s : State} (h : s.attempt.pending = []) : s.removePending = s := if_pos h

/-- A letter pushed and the Attempt Record replaced, with the miss count at 0 (R32, R160). -/
abbrev State.lettered (s : State) (x : Nat) (a : Attempt) : State := ((s.pushLetter x).setAttempt a).setMisses 0

/-! ## The changes a step is made of -/

/-- The changes that speech is made of, but for those of the voices: what an utterance's end and a walk's requests reach. -/
structure SpeechParts (P : State → Prop) : Prop where
  flags : ∀ {s} x, P s → P (s.setFlags x) := by intros; assumption
  report : ∀ {s} r, s.reports.length < 16 → P s → P (s.setReports (s.reports ++ [r])) := by intros; assumption
  voiceAsks : ∀ {s v kind}, s.hasTransfer (.voice v) = false → kind.select ≠ some .cartridge → P s →
    P (s.ask (.voice v) kind) := by intros; assumption
  voiceWithdraws : ∀ {s} v, P s → P (s.withdraw (.voice v)) := by intros; assumption
  store : ∀ {s} x, P s → P (s.setStore x) := by intros; assumption
  underrun : ∀ {s}, P s → P (s.setUnderruns (raise 255 s.underruns)) := by intros; assumption
  promptEndsSolo : ∀ {s}, s.round.state = .soloOpening → P s →
    P (s.setRound { s.round with state := .soloOpen, marked := none, soloTimer := .running Config.roundSeconds }) := by
      intros; assumption
  promptEndsCircle : ∀ {s}, s.round.state = .circleOpening → P s →
    P (s.setRound { s.round with state := .circlePlayer, marked := none }) := by intros; assumption
  reviewEnds : ∀ {s}, s.round.state = .soloReview → P s → P s.toIdle := by intros; assumption

/-- All the changes but those of the voices. -/
structure Parts (P : State → Prop) : Prop extends SpeechParts P where
  reset : ∀ l p, P ((State.resetWith l).setPending p)
  pending : ∀ {s} x, P s → P (s.setPending x) := by intros; assumption
  reportLeaves : ∀ {s}, P s → P (s.setReports s.reports.tail) := by intros; assumption
  answered : ∀ {s} r, s.answer = none →
    (r.code = Config.codeDoze → r.outcome = .done → s.round.state = .idle ∧ s.words.state ≠ .loading) →
    P s → P (s.setAnswer (some r)) := by intros; assumption
  replied : ∀ {s}, P s → P (s.setAnswer none) := by intros; assumption
  -- Memory Port and Utterance Store
  granted : ∀ {s t rest}, s.port.inFlight = none → s.port.waiting = t :: rest → P s →
    P (s.setPort { inFlight := some t, waiting := rest }) := by intros; assumption
  freed : ∀ {s t}, s.port.inFlight = some t → P s → P s.transferEnds := by intros; assumption
  readerAsks : ∀ {s t kind} x, s.port.inFlight = some t → t.requester = .letterTable →
    kind.select ≠ some .cartridge → P s →
    P ((s.transferEnds.setStore x).ask .letterTable kind) := by intros; assumption
  -- Word Table and List Loader
  loadStarts : ∀ {s l}, s.round.state = .idle → s.words.state ≠ .loading → s.answer = none → l.phase = .header → P s →
    P ((s.setWords { state := .loading, identity := 0, records := [] }).setLoader (some l)) := by intros; assumption
  loadAbsent : ∀ {s l}, s.round.state = .idle → s.words.state ≠ .loading → P s →
    P (((s.setWords { state := .loading, identity := 0, records := [] }).setLoader (some l)).loadEnded .absent 0) := by
      intros; assumption
  loaderAsks : ∀ {s l}, s.loader = some l → s.hasTransfer .loader = false → P s → P (s.ask .loader l.asks) := by
    intros; assumption
  headerTaken : ∀ {s t l l'}, s.port.inFlight = some t → t.kind = .header → t.discarded = false → s.loader = some l →
    l'.phase = .countByte → 0 < l'.toTake → l'.toTake ≤ 64 → P s →
    P (s.transferEnds.setLoader (some l')) := by intros; assumption
  countTaken : ∀ {s t l m}, s.port.inFlight = some t → t.kind.isCountByte = true → t.discarded = false →
    s.loader = some l → P s →
    P (s.transferEnds.setLoader (some { l with phase := .body m, address := l.address + 1 })) := by intros; assumption
  loadEnds : ∀ {s t l} o i, s.port.inFlight = some t → t.kind.select = some .cartridge → t.discarded = false →
    s.loader = some l → P s → P (s.transferEnds.loadEnded o i) := by intros; assumption
  bodyTaken : ∀ {s t l m} r a, s.port.inFlight = some t → t.kind.isBody = true → t.discarded = false →
    s.loader = some l → l.phase = .body m → s.words.records.length + 1 < l.toTake → P s →
    P ((s.transferEnds.setWords { s.words with records := s.words.records ++ [r] }).setLoader
      (some { l with phase := .countByte, address := a })) := by intros; assumption
  bodyEnds : ∀ {s t l m} r o i, s.port.inFlight = some t → t.kind.isBody = true → t.discarded = false →
    s.loader = some l → l.phase = .body m → P s →
    P ((s.transferEnds.setWords { s.words with records := s.words.records ++ [r] }).loadEnded o i) := by
      intros; assumption
  cartridgeRemoved : ∀ {s}, s.words.state = .loading → P s → P ((s.withdraw .loader).loadEnded .absent 0) := by
    intros; assumption
  boxed : ∀ {s w e} g, s.progress[w]? = some e → P s →
    P (s.setProgress (s.progress.set w { e with box := boxAfter g e.box })) := by intros; assumption
  chose : ∀ {s} p, P s → P (s.chose p) := by intros; assumption
  -- setup values, windows, Mixer
  setup : ∀ {s} args offered, s.round.state = .idle ∨ s.round.state = .circleDealing → P s →
    P ((s.setSetup (setupOf args)).setJudge { s.judge with pairs := (formPairs offered).1 }) := by intros; assumption
  staged : ∀ {s} x, P s → P (s.setStaged x) := by intros; assumption
  excluded : ∀ {s} i low high, P s →
    P (s.setWindows (s.windows.set i { low := clamp 0 64 low, high := clamp 0 64 high })) := by intros; assumption
  output : ∀ {s raw}, clampSample raw = raw → P s → P (s.setMixer { s.mixer with output := raw }) := by
    intros; assumption
  clipped : ∀ {s} raw, P s → P (s.setMixer { clips := raise 255 s.mixer.clips, output := clampSample raw }) := by
    intros; assumption
  statusSent : ∀ {s}, P s → P ((s.setMixer { s.mixer with clips := 0 }).setUnderruns 0) := by intros; assumption
  -- keys
  keys : ∀ {s} ks, ks.length = s.scanner.keys.length ∨ ks.length = 64 →
    (∀ k ∈ ks, k.run ≤ 2 ∨ k ∈ s.scanner.keys) → P s →
    P (s.setScanner { s.scanner with keys := ks }) := by intros; assumption
  keyQueued : ∀ {s code}, s.scanner.queue.length < 8 → code < s.scanner.keys.length → P s →
    P (s.setScanner { s.scanner with queue := s.scanner.queue ++ [code] }) := by intros; assumption
  keysLeave : ∀ {s q}, q.Sublist s.scanner.queue → P s → P (s.setScanner { s.scanner with queue := q }) := by
    intros; assumption
  -- Link Interface
  receiver : ∀ {s x}, s.link.receiver ≠ .off → x ≠ .off → P s → P (s.setReceiver x) := by intros; assumption
  goodOnClear : ∀ {s}, s.link.state = .clear → P s → P (s.setLink { s.link with badRun := 0 }) := by intros; assumption
  goodOnTroubled : ∀ {s}, s.link.state = .troubled → s.link.goodCount + 1 < 4 → P s →
    P (s.setLink { s.link with badRun := 0, goodCount := s.link.goodCount + 1 }) := by intros; assumption
  goodClears : ∀ {s}, P s → P (s.setLink { s.link with badRun := 0, goodCount := 0, state := .clear }) := by
    intros; assumption
  clash : ∀ {s}, P s → P (s.setLink { s.link with clashHold := 3 }) := by intros; assumption
  clashFades : ∀ {s}, P s → P (s.setLink { s.link with clashHold := s.link.clashHold - 1 }) := by intros; assumption
  frames : ∀ {s q} f, (q.map (·.kind)).Sublist (s.link.queue.map (·.kind)) → P s →
    P (s.setLink { s.link with queue := q, inFlight := f }) := by intros; assumption
  queued : ∀ {s k} body, s.link.countKind k < k.limit → P s →
    P (s.setLink { s.link with queue := s.link.queue ++ [{ kind := k, body := body, sending := false }] }) := by
      intros; assumption
  beatQueued : ∀ {s} body, P s → P (s.queueBeat body) := by intros; assumption
  discarded : ∀ {s x}, s.link.receiver ≠ .off → x ≠ .off → P s →
    P (s.setLink { s.link with receiver := x, badRun := raise 15 s.link.badRun, goodCount := 0 }) := by
      intros; assumption
  troubled : ∀ {s}, P s → P (s.setLink { s.link with state := .troubled, goodCount := 0 }) := by intros; assumption
  -- Roster
  peerHeard : ∀ {s n e}, n < 8 → n ≠ s.laptop.toNat → rosterAt s.roster n = some e → P s →
    P (s.setRoster (s.roster.set n (some { e with age := 0 }))) := by intros; assumption
  peerJoins : ∀ {s n}, n < 8 → n ≠ s.laptop.toNat → P s →
    P (s.setRoster (s.roster.set n
      (some { identity := none, age := 0, placed := 0, onLetters := 0, dealt := 0 }))) := by intros; assumption
  peerNoted : ∀ {s n e} i, n ≠ s.laptop.toNat → rosterAt s.roster n = some e → P s →
    P (s.setRoster (s.roster.set n (some { e with identity := i }))) := by intros; assumption
  peerDeals : ∀ {s n e}, n ≠ s.laptop.toNat → rosterAt s.roster n = some e → P s →
    P (s.setRoster (s.roster.set n (some { e with dealt := raise 255 e.dealt }))) := by intros; assumption
  peerTallied : ∀ {s n e} (on : Bool), n ≠ s.laptop.toNat → rosterAt s.roster n = some e → P s →
    P (s.setRoster (s.roster.set n (some { e with
      placed := raise 255 e.placed, onLetters := if on then raise 255 e.onLetters else e.onLetters }))) := by
      intros; assumption
  agedLeave : ∀ {s}, P s → P (s.setRoster (s.roster.map (fun e => e.filter (fun e => decide (e.age < 2))))) := by
    intros; assumption
  ages : ∀ {s}, (∀ e ∈ s.roster, ∀ x, e = some x → x.age < 2) → P s → P s.ageRoster := by intros; assumption
  -- doze
  wakes : ∀ {s} cause, s.power = .dozing → P s → P (s.setPower (.settling cause)) := by intros; assumption
  settles : ∀ {s}, s.power ≠ .awake → P s →
    P (((s.setReceiver (.gapWait 0)).setPower .awake).setRoster (List.replicate 8 none)) := by intros; assumption
  -- the Round Controller
  marked : ∀ {s}, P s →
    P (s.setRound { s.round with marked := some s.round.marks, marks := s.round.marks + 1 }) := by intros; assumption
  toIdle : ∀ {s}, P s → P s.toIdle := by intros; assumption
  opensSolo : ∀ {s} w, s.answer = none → s.words.state ≠ .loading → P s →
    P (s.opened .solo w none .stopped .soloOpening) := by intros; assumption
  opensCircle : ∀ {s} w tag, s.goingToDoze = false ∨ s.round.state = .circleDealing → s.words.state ≠ .loading → P s →
    P (s.opened .circle w (some tag) (.running Config.circleSeconds) .circleOpening) := by intros; assumption
  watches : ∀ {s} w tag, s.goingToDoze = false ∨ s.round.state = .circleDealing → P s → P (s.watched w tag) := by
    intros; assumption
  deals : ∀ {s} d, s.answer = none → s.round.state = .idle → P s →
    P (s.setRound { s.round with deal := some d, state := .circleDealing }) := by intros; assumption
  restarts : ∀ {s}, s.round.state = .idle → P s →
    P (s.clearAttempt.setRound { Round.reset with lastTag := s.round.lastTag, marks := s.round.marks }) := by
      intros; assumption
  tagNoted : ∀ {s} tag, P s → P (s.setRound { s.round with lastTag := tag % 16 }) := by intros; assumption
  timerRestarts : ∀ {s}, s.round.state = .soloOpen → P s →
    P (s.setRound { s.round with soloTimer := .running Config.roundSeconds }) := by intros; assumption
  missed : ∀ {s}, s.round.misses < 2 → P s → P (s.setMisses (s.round.misses + 1)) := by intros; assumption
  missesEnd : ∀ {s}, P s → P (s.setMisses 0) := by intros; assumption
  reveals : ∀ {s}, P s →
    P (s.setRound { s.round with misses := 0, assists := raise 255 s.round.assists }) := by intros; assumption
  hints : ∀ {s}, s.round.hints < 3 → P s →
    P (s.setRound { s.round with hints := s.round.hints + 1, assists := raise 255 s.round.assists }) := by
      intros; assumption
  repeats : ∀ {s} x, P s → P (s.setRound { s.round with nextRepeat := x }) := by intros; assumption
  reviews : ∀ {s}, s.round.state = .soloOpen → P s →
    P (s.setRound { s.round with soloTimer := .stopped, state := .soloReview }) := by intros; assumption
  landsSolo : ∀ {s} x, s.round.state = .soloOpen → s.attempt.landed.length < 20 → P s →
    P (s.lettered x { s.attempt with landed := s.attempt.landed ++ [x] }) := by intros; assumption
  erases : ∀ {s}, s.round.state = .soloOpen → s.attempt.landed ≠ [] → P s →
    P (((s.setRows (popRow s.judge.rows)).setAttempt
      { s.attempt with landed := s.attempt.landed.dropLast }).setMisses 0) := by intros; assumption
  keepsPending : ∀ {s} x, s.round.state = .circlePlayer → s.attempt.count < 20 → s.attempt.pending.length < 3 → P s →
    P (s.lettered x { s.attempt with pending := s.attempt.pending ++ [x] }) := by intros; assumption
  removesPending : ∀ {s}, s.attempt.pending ≠ [] → P s → P s.pendingRemoved := by intros; assumption
  landsOwn : ∀ {s x rest}, s.round.state.circleOpen = true → s.attempt.pending = x :: rest → P s →
    P (((s.setAttempt { s.attempt with landed := s.attempt.landed ++ [x], pending := rest }).setMisses 0).restartCircle) := by
      intros; assumption
  landsPeer : ∀ {s} x, s.round.state.player = true → s.attempt.landed.length < 20 → s.attempt.pending = [] → P s →
    P (s.lettered x { s.attempt with landed := s.attempt.landed ++ [x] }).restartCircle := by intros; assumption
  landsWatched : ∀ {s} x, s.round.state = .circleSpectator → s.attempt.landed.length < 20 → P s →
    P (((s.setAttempt { s.attempt with landed := s.attempt.landed ++ [x] }).setMisses 0).restartCircle) := by
      intros; assumption
  becomesSpectator : ∀ {s}, s.round.state.player = true → s.attempt.pending = [] → P s →
    P (((s.setAttempt { s.attempt with target := none }).setRows []).setRoundState .circleSpectator) := by
      intros; assumption

/-- What the voices do (chapter 6): offers of entries whose mark, if any, is numbered; STOP; a walk that goes on; a frame
boundary; a transfer's bytes taken by a walk. -/
structure KeptBySpeech (P : State → Prop) : Prop where
  offer : ∀ {s} v e, (∀ n ∈ e.markNo, n < s.round.marks) → P s → P (s.offer v e).1
  stopVoice : ∀ {s} silent v, P s → P (s.stopVoice silent v)
  goOn : ∀ {s} v, P s → P (s.goOn v)
  boundary : ∀ {s} v, P s → P (s.boundary v)
  taken : ∀ {s v c c'} b, (s.voice v).current = some c → c'.entry = c.entry → P s →
    P (s.setVoice v { s.voice v with current := some c', buffer := b })

/-- P survives all the changes that steps are made of. -/
structure Kept (P : State → Prop) : Prop extends Parts P, KeptBySpeech P

end Sys2Proof.Machine
end

section
/-! What the voices do is made of single updates: a property that survives those survives every operation of chapter 6. -/

namespace Sys2Proof.Machine

/-! ## Small facts of the voices -/

theorem State.voice_congr {s t : State} (hA : t.voiceA = s.voiceA) (hB : t.voiceB = s.voiceB) (v : VoiceId) :
    t.voice v = s.voice v := by cases v <;> assumption

@[simp] theorem State.setVoice_hasTransfer (s : State) (v : VoiceId) (x : Voice) (r : Requester) :
    (s.setVoice v x).hasTransfer r = s.hasTransfer r := by cases v <;> rfl

/-- A walk asks the speech ROM or the Utterance Store, never the cartridge (R99). -/
theorem walkMove_select {chain : Nat} {p : WalkPlace} {k : TransferKind} (h : walkMove chain p = .needs k) :
    k.select ≠ some .cartridge := by
  unfold walkMove at h
  (repeat' split at h) <;> cases h <;> simp [TransferKind.select]

/-- What a walk that advances asks for, and that it stays the walk of its entry. -/
theorem walkOn_holds {Q : Context → List Fetched → Option TransferKind → Prop}
    (hstop : ∀ c b, Q c b none) (hneeds : ∀ c b k, walkMove c.chain c.place = .needs k → Q c b (some k))
    (fuel : Nat) (c : Context) (b : List Fetched) :
    Q (walkOn fuel c b).1 (walkOn fuel c b).2.1 (walkOn fuel c b).2.2 := by
  induction fuel generalizing c b with
  | zero => exact hstop c b
  | succ fuel ih =>
    unfold walkOn
    split
    · exact hstop c b
    · split
      · exact hstop c b
      · exact hneeds c b _ ‹_›
      · exact ih _ _
      · exact ih _ _

theorem walkOn_entry (fuel : Nat) (c : Context) (b : List Fetched) : (walkOn fuel c b).1.entry = c.entry := by
  induction fuel generalizing c b with
  | zero => rfl
  | succ fuel ih =>
    unfold walkOn
    split
    · rfl
    · split
      · rfl
      · rfl
      · exact ih _ _
      · exact ih _ _

theorem walkOn_asks {fuel : Nat} {c : Context} {b : List Fetched} {k : TransferKind}
    (h : (walkOn fuel c b).2.2 = some k) : k.select ≠ some .cartridge := by
  have hQ := walkOn_holds (Q := fun _ _ o => ∀ k, o = some k → k.select ≠ some .cartridge)
    (fun _ _ _ hk => nomatch hk) (fun _ _ k hm k' hk => Option.some.inj hk ▸ walkMove_select hm) fuel c b
  exact hQ k h

/-- An advancing walk changes its voice's context and buffer alone, and asks for at most one transfer, when the voice has
none (R98, R111). -/
theorem State.advance_cases (s : State) (v : VoiceId) :
    s.advance v = s ∨
    ∃ c c' b, (s.voice v).current = some c ∧ c'.entry = c.entry ∧ s.hasTransfer (.voice v) = false ∧
      (s.advance v = s.setVoice v { s.voice v with current := some c', buffer := b } ∨
       ∃ k, k.select ≠ some .cartridge ∧
        s.advance v = (s.setVoice v { s.voice v with current := some c', buffer := b }).ask (.voice v) k) := by
  unfold State.advance
  split
  · exact .inl rfl
  · rename_i c hc
    split
    · exact .inl rfl
    · rename_i hfree
      refine .inr ⟨c, _, (walkOn walkFuel c (s.voice v).buffer).2.1, hc, walkOn_entry walkFuel c (s.voice v).buffer,
        by simpa using hfree, ?_⟩
      dsimp only
      split
      · exact .inr ⟨_, walkOn_asks ‹_›, rfl⟩
      · exact .inl rfl

/-! ## From single updates to operations -/

namespace SpeechParts

variable {P : State → Prop} (h : SpeechParts P)
include h

theorem post {s : State} (r : Record) (hs : P s) : P (s.post r) := by
  obtain ⟨hroom, heq⟩ | ⟨-, heq⟩ := s.post_cases r <;> rw [heq]
  · exact h.report r hroom hs
  · exact h.flags _ hs

theorem markEnded {s : State} (n : Nat) (hs : P s) : P (s.markEnded n) := by
  unfold State.markEnded
  split
  · split
    · exact h.promptEndsSolo ‹_› hs
    · exact h.reviewEnds ‹_› hs
    · exact h.promptEndsCircle ‹_› hs
    all_goals exact hs
  · exact hs

theorem freeUtterance {s : State} (start : StartRef) (hs : P s) : P (s.freeUtterance start) := by
  cases start with
  | phrase p => exact hs
  | slot n => exact h.store _ hs

theorem endEntry {s : State} (silent : Bool) (e : Entry) (o : SpokenOutcome) (hs : P s) : P (s.endEntry silent e o) := by
  have hfreed := h.freeUtterance e.start hs
  have hposted : P (if e.tag ≠ 0 ∧ silent = false then (s.freeUtterance e.start).post (.spoken e.tag o)
      else s.freeUtterance e.start) := by
    split
    · exact h.post _ hfreed
    · exact hfreed
  unfold State.endEntry
  dsimp only
  split
  · exact h.markEnded _ hposted
  · exact hposted

theorem endAll {α : Type} {s : State} (silent : Bool) (f : α → Entry) (o : SpokenOutcome) (l : List α) (hs : P s) :
    P (l.foldl (fun s d => s.endEntry silent (f d) o) s) :=
  foldl_holds _ P (fun _ a => h.endEntry silent (f a) o) l s hs

section
variable (voice : ∀ {s : State} v x, P s → P (s.setVoice v x))
include voice

theorem advance {s : State} (v : VoiceId) (hs : P s) : P (s.advance v) := by
  obtain heq | ⟨c, c', b, -, -, hfree, heq | ⟨k, hk, heq⟩⟩ := s.advance_cases v <;> rw [heq]
  · exact hs
  · exact voice _ _ hs
  · exact h.voiceAsks (by simpa using hfree) hk (voice _ _ hs)

theorem beginWalk {s : State} (v : VoiceId) (c : Context) (hs : P s) : P (s.begin v c) :=
  h.advance voice v (voice _ _ hs)

theorem chooseNext {s : State} (v : VoiceId) (hs : P s) : P (s.chooseNext v) := by
  obtain ⟨-, -, heq⟩ | ⟨e, -, -, heq⟩ | ⟨c, rest, -, -, heq⟩ := s.chooseNext_cases v <;> rw [heq]
  · exact voice _ _ hs
  · exact h.beginWalk voice _ _ (voice _ _ hs)
  · exact h.beginWalk voice _ _ (voice _ _ hs)

theorem endCurrent {s : State} (v : VoiceId) (o : SpokenOutcome) (hs : P s) : P (s.endCurrent v o) := by
  unfold State.endCurrent
  split
  · exact hs
  · exact h.chooseNext voice v (h.endEntry _ _ _ (voice _ _ hs))

theorem goOn {s : State} (v : VoiceId) (hs : P s) : P (s.goOn v) := by
  have hadvanced := h.advance voice v hs
  unfold State.goOn
  dsimp only
  split
  · split
    · exact h.endCurrent voice v _ hadvanced
    · exact hadvanced
  · exact hadvanced

theorem offer {s : State} (v : VoiceId) (e : Entry) (hs : P s) : P (s.offer v e).1 := by
  obtain ⟨-, heq⟩ | ⟨c, -, ⟨-, heq⟩ | ⟨-, d, -, heq⟩ | ⟨-, -, heq⟩⟩ := s.offer_cases v e <;> rw [heq]
  · exact h.beginWalk voice _ _ hs
  · exact voice _ _ hs
  · exact h.endEntry _ _ _ (voice _ _ hs)
  · exact h.endEntry _ _ _ hs

theorem stopVoice {s : State} (silent : Bool) (v : VoiceId) (hs : P s) : P (s.stopVoice silent v) :=
  h.endAll silent id _ _ (h.voiceWithdraws v (voice _ _ hs))

theorem renderFrame {s : State} (v : VoiceId) (hs : P s) : P (s.renderFrame v) := by
  unfold State.renderFrame
  dsimp only
  split
  · exact hs
  · exact h.advance voice v (voice _ _ hs)
  · split
    · exact h.underrun (voice _ _ hs)
    · exact voice _ _ hs

theorem preempt {s : State} (v : VoiceId) (c : Context) (e : Entry) (hs : P s) : P (s.preempt v c e) :=
  h.beginWalk voice _ _ (h.endAll false (fun d : Context => d.entry) _ _ (h.voiceWithdraws v (voice _ _ hs)))

theorem boundary {s : State} (v : VoiceId) (hs : P s) : P (s.boundary v) := by
  obtain ⟨-, heq⟩ | ⟨c, o, -, -, -, heq⟩ | ⟨c, e, -, -, -, heq⟩ | ⟨c, -, heq⟩ := s.boundary_cases v <;> rw [heq]
  · exact hs
  · exact h.renderFrame voice v (h.endCurrent voice v o hs)
  · exact h.renderFrame voice v (h.preempt voice v c e hs)
  · exact h.renderFrame voice v hs

/-- A property that does not look at the voices survives what they do when it survives the single updates. -/
theorem kept : KeptBySpeech P where
  offer v e _ := h.offer voice v e
  stopVoice := h.stopVoice voice
  goOn := h.goOn voice
  boundary := h.boundary voice
  taken _ _ _ := voice _ _

end

end SpeechParts

end Sys2Proof.Machine
end

section
/-! From the changes to the commands: a property that survives every change survives every shared operation, every command
and every step. -/

namespace Sys2Proof.Machine

/-! ## What the voices leave of the round -/

/-- The round's counts, which no utterance's end changes (R68). -/
abbrev KeepsCounts (s t : State) : Prop :=
  t.round.marks = s.round.marks ∧ t.round.hints = s.round.hints ∧ t.round.misses = s.round.misses ∧
  t.round.assists = s.round.assists ∧ t.round.lastTag = s.round.lastTag

/-- An offered entry's end may move the round, but leaves its counts (R68, R104). -/
theorem State.offer_keepsCounts {s : State} (v : VoiceId) (e : Entry) : KeepsCounts s (s.offer v e).1 := by
  have hvoice : ∀ {t : State} w x, KeepsCounts s t → KeepsCounts s (t.setVoice w x) :=
    fun w _ ht => by cases w <;> exact ht
  exact SpeechParts.offer {} hvoice v e ⟨rfl, rfl, rfl, rfl, rfl⟩

theorem State.phrases_unmarked (s : State) (source : Source) (p : Nat) (ps : List Nat) :
    ∀ e ∈ s.phrases source p ps, e.markNo = none := by
  simp [State.phrases, State.entry]

/-! ## Shared operations -/

namespace Parts

variable {P : State → Prop} (h : Parts P) {s : State}
include h

theorem grant (hs : P s) : P s.grant := by
  obtain ⟨t, rest, hfree, hwaiting, heq⟩ | ⟨-, heq⟩ := s.grant_cases <;> rw [heq]
  · exact h.granted hfree hwaiting hs
  · exact hs

theorem queueFrame (k : TxKind) (body : List Byte) (hs : P s) : P (s.queueFrame k body) := by
  obtain ⟨hroom, heq⟩ | ⟨-, heq⟩ := s.queueFrame_cases k body <;> rw [heq]
  · exact h.queued body hroom hs
  · exact hs

/-- Entries may leave the transmit queue, and the rest be marked anew. -/
theorem queueShrinks {q : List TxEntry} (hq : q.Sublist s.link.queue) (hs : P s) :
    P (s.setLink { s.link with queue := q }) :=
  h.frames s.link.inFlight (hq.map _) hs

theorem removeKind (k : TxKind) (hs : P s) : P (s.removeKind k) := h.queueShrinks List.filter_sublist hs

theorem removeRoundFrames (hs : P s) : P s.removeRoundFrames := h.removeKind _ (h.removeKind _ hs)

theorem emptyQueue (hs : P s) : P s.emptyQueue := h.queueShrinks (List.nil_sublist _) hs

theorem removePending (hs : P s) : P s.removePending := by
  by_cases hp : s.attempt.pending = []
  · rwa [State.removePending_of_eq hp]
  · rw [State.removePending_of_ne hp]
    exact h.removesPending hp hs

theorem updateBox (w : Nat) (g : Grade) (hs : P s) : P (s.updateBox w g) := by
  unfold State.updateBox
  split
  · exact h.boxed g ‹_› hs
  · exact hs

theorem compose (letters : List Nat) (hs : P s) : P (s.compose letters).1 := by
  unfold State.compose
  dsimp only
  split
  · exact hs
  · exact h.store _ hs

/-! ### Good frames (R134 to R137, R149) -/

theorem countGood (hs : P s) : P s.countGood := by
  unfold State.countGood
  split
  · exact h.goodOnClear ‹_› hs
  · split
    · exact h.goodOnTroubled ‹_› ‹_› hs
    · exact h.post _ (h.goodClears hs)

theorem seeClash (hs : P s) : P s.seeClash := h.clash (h.post _ (h.flags _ hs))

theorem entryLeaves (hs : P s) : P s.entryLeaves := by
  unfold State.entryLeaves
  split
  · exact hs
  · rename_i x _
    have hleft := h.frames (s := s) (q := s.link.queue.filter (fun e => !e.sending)) none (List.filter_sublist.map _) hs
    dsimp only
    split
    · exact hleft
    · exact h.replied hleft
    · exact h.reportLeaves hleft

theorem frameEnds (own : Bool) (role laptop : Nat) (hr : s.link.receiver ≠ .off) (hs : P s) :
    P (s.frameEnds own role laptop) := by
  have hafter : s.link.receiverAfterGood own ≠ .off := by unfold Link.receiverAfterGood; split <;> simp [hr]
  have hcounted := h.countGood (h.receiver hr hafter hs)
  unfold State.frameEnds
  dsimp only
  have hclash : ∀ {u : State} (c : Prop) [Decidable c], P u → P (if c then u.seeClash else u) := by
    intro u c _ hu
    split
    · exact h.seeClash hu
    · exact hu
  split
  · exact h.entryLeaves (hclash _ hcounted)
  · exact hclash _ hcounted

theorem heardPeer {n : Nat} (hn : n < 8) (hown : n ≠ s.laptop.toNat) (hs : P s) : P (s.heardPeer n) := by
  unfold State.heardPeer
  split
  · exact h.peerHeard hn hown ‹_› hs
  · exact h.post _ (h.peerJoins hn hown hs)

theorem rosterHears {n : Nat} (hn : n < 8) (hs : P s) : P (s.rosterHears n) := by
  unfold State.rosterHears
  split
  · exact hs
  · exact h.heardPeer hn ‹_› hs

theorem noteIdentity (n : Nat) (i : BitVec 16) (hs : P s) : P (s.noteIdentity n i) := by
  unfold State.noteIdentity State.updatePeer
  split
  · exact hs
  · split
    · exact h.peerNoted _ ‹_› ‹_› hs
    · exact hs

theorem countDeal (n : Nat) (hs : P s) : P (s.countDeal n) := by
  unfold State.countDeal State.updatePeer
  split
  · exact hs
  · split
    · exact h.peerDeals ‹_› ‹_› hs
    · exact hs

theorem tallyLetter {n : Nat} (on : Bool) (hown : n ≠ s.laptop.toNat) (hs : P s) : P (s.tallyLetter n on) := by
  unfold State.tallyLetter State.updatePeer
  split
  · exact h.peerTallied on hown ‹_› hs
  · exact hs

theorem postAll {α : Type} (f : α → Record) (l : List α) (hs : P s) : P (l.foldl (fun s n => s.post (f n)) s) :=
  foldl_holds _ P (fun _ a => h.post (f a)) l s hs

theorem removeAged (hs : P s) : P s.removeAged := h.postAll _ _ (h.agedLeave hs)

/-! ### The scan pass (R49 to R54) -/

theorem offerKey {k : Nat} (hk : k < s.scanner.keys.length) (hs : P s) : P (s.offerKey k) := by
  obtain ⟨hroom, heq⟩ | ⟨-, heq⟩ := s.offerKey_cases k <;> rw [heq]
  · exact h.keyQueued hroom hk hs
  · exact h.flags _ hs

/-- One key's cell replaced by one with run count 0. -/
theorem keySet (code : Nat) (x : KeyState) (hs : P s) :
    P (s.setScanner { s.scanner with keys := s.scanner.keys.set code { state := x, run := 0 } }) := by
  refine h.keys _ (.inl List.length_set) (fun k hk => ?_) hs
  obtain hk | rfl := List.mem_or_eq_of_mem_set hk
  · exact .inr hk
  · exact .inl (Nat.zero_le 2)

theorem considerKey {k : Nat} (hk : k < s.scanner.keys.length) (hs : P s) : P (s.considerKey k) := by
  unfold State.considerKey
  split
  · exact h.keySet _ _ hs
  · exact h.offerKey (by simpa using hk) (h.keySet _ _ hs)

end Parts

theorem State.considerKey_keys_length (s : State) (k : Nat) :
    (s.considerKey k).scanner.keys.length = s.scanner.keys.length := by
  unfold State.considerKey State.offerKey
  (repeat' split) <;> simp

/-- A reading leaves a run count of at most 2, or a press candidate's cell as it was (R50). -/
theorem readKey_run (down : Bool) (k : KeyCell) : (readKey down k).1.run ≤ 2 ∨ (readKey down k).1 = k := by
  unfold readKey
  (repeat' split) <;> simp [KeyCell.up] <;> omega

namespace Parts

variable {P : State → Prop} (h : Parts P) {s : State}
include h

theorem considerKeys {ks : List Nat} (hk : ∀ k ∈ ks, k < s.scanner.keys.length) (hs : P s) :
    P (ks.foldl State.considerKey s) := by
  induction ks generalizing s with
  | nil => exact hs
  | cons k ks ih =>
    rw [List.forall_mem_cons] at hk
    exact ih (by simpa [State.considerKey_keys_length] using hk.2) (h.considerKey hk.1 hs)

theorem scan (down : BitVec 64) (hs : P s) : P (s.scan down) := by
  have hlength : (readKeys down s.scanner.keys).length = s.scanner.keys.length := by simp [readKeys]
  refine h.considerKeys (fun k hk => ?_) (h.keys _ (.inl hlength) (fun x hx => ?_) hs)
  · simp only [pressCandidates, List.mem_filter, List.mem_range] at hk
    simpa [hlength] using hk.1
  · obtain ⟨i, hi, rfl⟩ := List.mem_mapIdx.mp hx
    obtain hrun | hsame := readKey_run (down.getLsbD i) s.scanner.keys[i]
    · exact .inl hrun
    · rw [hsame]
      exact .inr (List.getElem_mem hi)

theorem keysUp (hs : P s) : P (s.setScanner { s.scanner with keys := List.replicate 64 KeyCell.up }) :=
  h.keys _ (.inr List.length_replicate) (fun k hk => .inl (by simp [List.eq_of_mem_replicate hk, KeyCell.up])) hs

/-! ### The List Loader (R3 to R7) -/

theorem loaderAsksNow (hs : P s) : P s.loaderAsks := by
  unfold State.loaderAsks
  split
  · exact hs
  · split
    · exact hs
    · rename_i hl hfree
      exact h.loaderAsks hl (eq_false_of_ne_true hfree) hs

theorem loaderTakes {t : Transfer} {take : Load → State → State} (hport : s.port.inFlight = some t) (hs : P s)
    (htake : ∀ l, s.loader = some l → t.discarded = false → P (take l s.transferEnds)) :
    P (s.transferEnds.loaderTakes t take) := by
  have hfreed := h.freed hport hs
  unfold State.loaderTakes
  split
  · exact h.loaderAsksNow hfreed
  · split
    · exact htake _ ‹_› (by simpa using ‹¬ t.discarded = true›)
    · exact hfreed

theorem takeHeader {t : Transfer} {l : Load} (bytes : List Byte) (hport : s.port.inFlight = some t)
    (hkind : t.kind = .header) (hd : t.discarded = false) (hl : s.loader = some l) (hs : P s) :
    P (takeHeader bytes l s.transferEnds) := by
  unfold Machine.takeHeader
  split
  · rw [State.endLoad_eq]
    exact h.post _ (h.loadEnds _ _ hport (by rw [hkind]; rfl) hd hl hs)
  · rename_i hgood
    obtain ⟨-, hcount⟩ : headerMarkGood bytes = true ∧ headerCount bytes ≠ 0 := by simpa using hgood
    exact h.loaderAsksNow (h.headerTaken hport hkind hd hl rfl (by simp [Config.wordLimit]; omega) (Nat.min_le_left _ _) hs)

theorem takeCountByte {t : Transfer} {l : Load} (count : Byte) (hport : s.port.inFlight = some t)
    (hkind : t.kind.isCountByte = true) (hd : t.discarded = false) (hl : s.loader = some l) (hs : P s) :
    P (takeCountByte count l s.transferEnds) := by
  unfold Machine.takeCountByte
  split
  · have hselect : t.kind.select = some .cartridge := by
      cases hk : t.kind <;> simp_all [TransferKind.isCountByte, TransferKind.select]
    rw [State.endLoad_eq]
    exact h.post _ (h.loadEnds _ _ hport hselect hd hl hs)
  · exact h.loaderAsksNow (h.countTaken hport hkind hd hl hs)

theorem takeBody {t : Transfer} {l : Load} (bytes : List Byte) (hport : s.port.inFlight = some t)
    (hkind : t.kind.isBody = true) (hd : t.discarded = false) (hl : s.loader = some l) (hs : P s) :
    P (takeBody bytes l s.transferEnds) := by
  unfold Machine.takeBody
  split
  · rename_i m hphase
    dsimp only
    split
    · rw [State.endLoad_eq]
      exact h.post _ (h.bodyEnds _ _ _ hport hkind hd hl hphase hs)
    · rename_i hmore
      exact h.loaderAsksNow (h.bodyTaken _ _ hport hkind hd hl hphase (by simpa using hmore) hs)
  · exact h.freed hport hs
  · exact h.freed hport hs

/-! ### The letter table read (R94) -/

theorem writeLetter {t : Transfer} (r : LetterRead) (e : LetterEntry) (hport : s.port.inFlight = some t)
    (hown : t.requester = .letterTable) (hs : P s) : P (s.transferEnds.writeLetter r e) := by
  unfold State.writeLetter State.readerAsks
  split
  · exact h.store _ (h.freed hport hs)
  · split <;> exact h.readerAsks _ hport hown (by simp [TransferKind.select]) hs

theorem readerTakesEntry {t : Transfer} (a : BitVec 24) (hport : s.port.inFlight = some t)
    (hown : t.requester = .letterTable) (hs : P s) : P (s.transferEnds.readerTakesEntry a) := by
  unfold State.readerTakesEntry
  split
  · exact h.freed hport hs
  · split
    · exact h.writeLetter _ _ hport hown hs
    · exact h.readerAsks _ hport hown (by simp [TransferKind.select]) hs

theorem readerTakesDescriptor {t : Transfer} (d : Descriptor) (hport : s.port.inFlight = some t)
    (hown : t.requester = .letterTable) (hs : P s) : P (s.transferEnds.readerTakesDescriptor d) := by
  unfold State.readerTakesDescriptor
  split
  · exact h.freed hport hs
  · exact h.writeLetter _ _ hport hown hs

end Parts

end Sys2Proof.Machine
end

section
/-! The Round Controller's operations and the commands: a property that survives every change survives every step, but for the
doze entry and the loss of the word, which `Result` keeps apart. -/

namespace Sys2Proof.Machine

namespace Kept

variable {P : State → Prop} (h : Kept P) {s : State}
include h

/-! ## Speech of the part's own making (R102, R105) -/

theorem offerAll (v : VoiceId) (es : List Entry) (hm : ∀ e ∈ es, ∀ n ∈ e.markNo, n < s.round.marks) (hs : P s) :
    P (s.offerAll v es) := by
  induction es generalizing s with
  | nil => exact hs
  | cons e es ih =>
    rw [List.forall_mem_cons] at hm
    obtain ⟨hmarks, -⟩ := s.offer_keepsCounts v e
    exact ih (hmarks ▸ hm.2) (h.offer v e hm.1 hs)

theorem offerGroup (es : List Entry) (hm : ∀ e ∈ es, e.markNo = none) (hs : P s) : P (s.offerGroup es) := by
  unfold State.offerGroup
  split
  · exact hs
  · exact h.offerAll _ _ (fun e he n hn => by simp [hm e he] at hn) hs

theorem speakOwn (ps : List Nat) (hs : P s) : P (s.speakOwn ps) := h.offerGroup _ (s.phrases_unmarked _ _ _) hs

theorem speakRound (ps : List Nat) (hs : P s) : P (s.speakRound ps) := h.offerGroup _ (s.phrases_unmarked _ _ _) hs

theorem speakPeer (laptop phrase : Nat) (hs : P s) : P (s.speakPeer laptop phrase) :=
  h.offerGroup _ (by simp [State.entry]) hs

theorem offerMarked (es : List Entry) (hm : ∀ e ∈ es, ∀ n ∈ e.markNo, n ≤ s.round.marks) (hs : P s) :
    P (s.offerMarked es) :=
  h.offerAll _ _ (fun e he n hn => Nat.lt_succ_of_le (hm e he n hn)) (h.marked hs)

theorem queuePrompt (hs : P s) : P s.queuePrompt := h.offerMarked _ (by simp [State.entry]) hs

theorem stopBoth (silent : Bool) (hs : P s) : P (s.stopBoth silent) := h.stopVoice _ _ (h.stopVoice _ _ hs)

theorem stopNamed (n : Nat) (hs : P s) : P (s.stopNamed n) := by
  unfold State.stopNamed
  split
  · exact h.stopVoice _ _ hs
  · exact h.stopVoice _ _ hs
  · exact h.stopBoth _ hs

theorem echoOwn (x : Nat) (v : Verdict) (hs : P s) : P (s.echoOwn x v) := by
  unfold State.echoOwn
  dsimp only
  split
  · exact h.speakOwn _ hs
  · exact h.speakOwn _ hs

/-! ## Keys of a round (R33, R70 to R73, R160, R161) -/

theorem guidedRefusal (hs : P s) : P s.guidedRefusal := by
  unfold State.guidedRefusal
  split
  · exact h.speakOwn _ (h.missed ‹_› hs)
  · split
    · exact h.speakOwn _ (h.reveals hs)
    · exact h.speakOwn _ (h.missesEnd hs)

theorem soloLetter (x : Nat) (hopen : s.round.state = .soloOpen) (hs : P s) : P (s.soloLetter x) := by
  unfold State.soloLetter
  split
  · exact h.speakOwn _ hs
  · split
    · exact h.guidedRefusal hs
    · exact h.echoOwn _ _ (h.landsSolo x hopen (Nat.lt_of_not_le ‹_›) hs)

theorem soloErase (hopen : s.round.state = .soloOpen) (hs : P s) : P s.soloErase := by
  unfold State.soloErase
  split
  · exact h.speakOwn _ hs
  · exact h.speakOwn _ (h.erases hopen ‹_› hs)

theorem sayAgain (hs : P s) : P s.sayAgain := by
  unfold State.sayAgain
  split
  · exact h.speakRound _ (h.repeats _ hs)
  · exact h.speakRound _ (h.repeats _ hs)
  · exact h.speakRound _ (h.repeats _ hs)
  · exact h.speakRound _ hs

theorem giveHint (hs : P s) : P s.giveHint := by
  unfold State.giveHint
  split
  · exact h.speakRound _ hs
  · split
    · exact h.speakRound _ hs
    · exact h.speakRound _ (h.hints (Nat.lt_of_not_le ‹_›) hs)

theorem resultSpeech (g : Grade) (mark : Bool) (hs : P s) : P (s.resultSpeech g mark).1 := by
  unfold State.resultSpeech
  split
  · exact hs
  · exact h.compose _ hs

end Kept

theorem State.updateBox_round (s : State) (w : Nat) (g : Grade) : (s.updateBox w g).round = s.round := by
  unfold State.updateBox
  split <;> rfl

/-- The result speech is unmarked, or its last entry takes the next mark (R76). -/
theorem State.resultSpeech_marks (s : State) (g : Grade) (mark : Bool) :
    ∀ e ∈ (s.resultSpeech g mark).2, ∀ n ∈ e.markNo, mark = true ∧ n = s.round.marks := by
  have hentry : ∀ (p : Nat) (start : StartRef) (m : Bool), (m = true → mark = true) →
      ∀ n ∈ (s.entry .round p start m).markNo, mark = true ∧ n = s.round.marks := by
    intro p start m hm n hn
    cases m with
    | false => simp [State.entry] at hn
    | true => exact ⟨hm rfl, by simpa [State.entry, eq_comm] using hn⟩
  unfold State.resultSpeech
  split
  · simpa using hentry _ _ mark id
  · intro e he
    simp only [List.mem_append, List.mem_cons, List.not_mem_nil, or_false, Option.mem_toList, Option.map_eq_some_iff] at he
    obtain ((rfl | rfl) | ⟨x, -, rfl⟩) | rfl := he
    · exact hentry _ _ false nofun
    · exact hentry _ _ false nofun
    · exact hentry _ _ false nofun
    · exact hentry _ _ mark id

namespace Kept

variable {P : State → Prop} (h : Kept P) {s : State}
include h

theorem gradeSolo (hopen : s.round.state = .soloOpen) (hs : P s) : P s.gradeSolo := by
  have hboxed := h.updateBox (s.round.word.getD 0) s.grade hs
  unfold State.gradeSolo
  refine h.offerMarked _ (fun e he n hn => ?_) (h.resultSpeech _ _ (h.reviews ?_ (h.post _ hboxed)))
  swap
  · simpa [State.updateBox_round] using hopen
  obtain ⟨-, hn⟩ := State.resultSpeech_marks _ _ _ e he n hn
  simp [hn]

theorem soloDone (hopen : s.round.state = .soloOpen) (hs : P s) : P s.soloDone := by
  unfold State.soloDone
  split
  · exact h.speakOwn _ hs
  · exact h.gradeSolo hopen hs

theorem reviewDone (hs : P s) : P s.reviewDone := by
  unfold State.reviewDone
  split
  · exact h.stopVoice _ _ hs
  · exact hs

theorem soloExpires (hopen : s.round.state = .soloOpen) (hs : P s) : P s.soloExpires := by
  unfold State.soloExpires
  split
  · exact h.toIdle (h.post _ hs)
  · exact h.gradeSolo hopen hs

theorem gradeCircle (hs : P s) : P s.gradeCircle := by
  have hremoved := h.removePending hs
  unfold State.gradeCircle
  refine h.toIdle (h.post _ (h.offerGroup _ (fun e he => ?_) (h.resultSpeech _ _ hremoved)))
  by_contra hmark
  obtain ⟨n, hn⟩ := Option.ne_none_iff_exists'.mp hmark
  obtain ⟨hfalse, -⟩ := State.resultSpeech_marks _ _ _ e he n hn
  cases hfalse

theorem circleLetter (x : Nat) (hplayer : s.round.state = .circlePlayer) (hs : P s) : P (s.circleLetter x) := by
  unfold State.circleLetter
  split
  · exact h.speakOwn _ hs
  · split
    · exact h.speakOwn _ hs
    · split
      · exact h.speakOwn _ hs
      · split
        · exact h.guidedRefusal hs
        · exact h.speakOwn _ (h.queueFrame _ _
            (h.keepsPending x hplayer (Nat.lt_of_not_le ‹_›) (Nat.lt_of_not_le ‹_›) hs))

theorem circleDone (hs : P s) : P s.circleDone := by
  unfold State.circleDone
  split
  · exact h.speakOwn _ hs
  · split
    · exact h.speakOwn _ hs
    · exact h.speakOwn _ (h.queueFrame _ _ hs)

theorem unusedKey (k : Nat) (hs : P s) : P (unusedKey k s) := by
  have hforwarded : P (s.forwardKey k) := h.post _ hs
  have hbuzzed : P (if k < 26 ∨ k = Config.keyDone then (s.forwardKey k).speakOwn [Config.phraseBuzz]
      else s.forwardKey k) := by
    split
    · exact h.speakOwn _ hforwarded
    · exact hforwarded
  unfold Machine.unusedKey
  split
  · exact hs
  · exact hbuzzed
  · exact hbuzzed
  all_goals exact hforwarded

theorem dropKey (hs : P s) : P s.dropKey := by
  have hleft := h.keysLeave (List.tail_sublist s.scanner.queue) hs
  unfold State.dropKey
  dsimp only
  split
  · exact h.timerRestarts ‹_› hleft
  · exact hleft

/-! ## Circle rounds (R152, R156 to R171) -/

theorem openCircle (identity : BitVec 16) (word tag count : Nat)
    (hanswer : s.goingToDoze = false ∨ s.round.state = .circleDealing) (hs : P s) :
    P (s.openCircle identity word tag count) := by
  unfold State.openCircle
  dsimp only
  split
  · rename_i hjoins
    have hready : s.words.state ≠ .loading := by
      simp only [State.joins, Bool.and_eq_true, beq_iff_eq] at hjoins
      obtain ⟨⟨⟨⟨-, hready⟩, -⟩, -⟩, -⟩ := hjoins
      simp [hready]
    exact h.queuePrompt (h.opensCircle word tag hanswer hready hs)
  · exact h.speakRound _ (h.watches word tag hanswer hs)

theorem takeDeal (own : Bool) (identity : BitVec 16) (word tag count : Nat) (hs : P s) :
    P (s.takeDeal own identity word tag count) := by
  have hnoted := h.tagNoted tag hs
  unfold State.takeDeal
  dsimp only
  split
  · split
    · rename_i hjoin
      exact h.openCircle _ _ _ _ (.inl hjoin.2.2) hnoted
    · exact hnoted
  · rename_i hdealing
    split
    · split
      · exact h.openCircle _ _ _ _ (.inr (by simpa using hdealing)) (h.post _ hnoted)
      · exact h.openCircle _ _ _ _ (.inr hdealing) hnoted
    · exact h.openCircle _ _ _ _ (.inr (by simpa using hdealing)) (h.post _ (h.removeKind .deal hnoted))
  all_goals exact hnoted

theorem landOwn (hopen : s.round.state.circleOpen = true) (hs : P s) : P s.landOwn := by
  unfold State.landOwn
  split
  · exact hs
  · exact h.echoOwn _ _ (h.landsOwn hopen ‹_› hs)

theorem tallied {n : Nat} (on : Bool) (hs : P s) :
    P (if n = s.laptop.toNat then s else s.tallyLetter n on) := by
  split
  · exact hs
  · exact h.tallyLetter on ‹_› hs

theorem landPeer (laptop x : Nat) (hplayer : s.round.state.player = true) (hlanded : s.attempt.landed.length < 20)
    (hs : P s) : P (s.landPeer laptop x) := by
  have hremoved := h.removePending (h.removeRoundFrames hs)
  have hstate : s.removeRoundFrames.removePending.round.state = s.round.state := by
    unfold State.removePending
    split <;> rfl
  have hattempt : s.removeRoundFrames.removePending.attempt.landed = s.attempt.landed ∧
      s.removeRoundFrames.removePending.attempt.pending = [] := by
    unfold State.removePending
    split
    · exact ⟨rfl, ‹_›⟩
    · exact ⟨rfl, rfl⟩
  have hland := h.landsPeer x (hstate ▸ hplayer) (hattempt.1 ▸ hlanded) hattempt.2 hremoved
  have hspoken : ∀ {u : State} (c : Bool) (p : Nat), P u → P (if c then u.speakRound [p] else u) := by
    intro u c p hu
    split
    · exact h.speakRound _ hu
    · exact hu
  exact h.tallied _ (h.speakPeer _ _ (hspoken _ _ (hspoken _ _ hland)))

theorem landSpectator (laptop x : Nat) (hwatches : s.round.state = .circleSpectator)
    (hlanded : s.attempt.landed.length < 20) (hs : P s) : P (s.landSpectator laptop x) :=
  h.tallied _ (h.speakPeer _ _ (h.landsWatched x hwatches hlanded hs))

/-- A LETTER changes what P survives, or it loses the word (R162). -/
theorem takeLetter (own : Bool) (laptop tag position letter check : Nat) (hs : P s) :
    P (s.takeLetter own laptop tag position letter check) ∨
    (s.round.state.circleOpen = true ∧ s.takeLetter own laptop tag position letter check = s.loseWord) := by
  unfold State.takeLetter
  split
  · exact .inl hs
  · rename_i hheard
    simp only [not_or, Bool.not_eq_false, not_not] at hheard
    obtain ⟨hopen, hlost, -, ⟨-, hlast⟩, -⟩ := hheard
    split
    · exact .inl hs
    · split
      · rename_i hnext
        split
        · exact .inl (h.landOwn hopen hs)
        · split
          · left
            split
            · exact h.landPeer _ _ ‹_› (by omega) hs
            · have hwatches : s.round.state = .circleSpectator := by
                cases hx : s.round.state <;> simp_all [RoundState.circleOpen, RoundState.player]
              exact h.landSpectator _ _ hwatches (by omega) hs
          · exact .inr ⟨hopen, rfl⟩
      · exact .inr ⟨hopen, rfl⟩

theorem roundOver (hs : P s) : P s.roundOver :=
  h.toIdle (h.speakRound _ (h.removePending (h.removeRoundFrames hs)))

theorem takeClose (tag count check : Nat) (hs : P s) : P (s.takeClose tag count check) := by
  unfold State.takeClose
  split
  · exact hs
  · split
    · exact h.roundOver hs
    · split
      · exact hs
      · split
        · exact h.gradeCircle (h.removeRoundFrames hs)
        · exact h.roundOver hs

theorem circleExpires (hs : P s) : P s.circleExpires := by
  unfold State.circleExpires
  split
  · split
    · exact h.toIdle (h.post _ (h.speakRound _ (h.removePending (h.removeRoundFrames hs))))
    · exact h.gradeCircle (h.removeRoundFrames hs)
  · exact h.roundOver hs

theorem spectates (hplayer : s.round.state.player = true) (hs : P s) :
    P (s.removeRoundFrames.releaseTarget.setRoundState .circleSpectator) := by
  have hremoved := h.removePending (h.removeRoundFrames hs)
  unfold State.releaseTarget
  refine h.becomesSpectator ?_ ?_ hremoved
  · unfold State.removePending
    split <;> exact hplayer
  · unfold State.removePending
    split
    · assumption
    · rfl

theorem roundTroubled (hs : P s) : P s.roundTroubled := by
  unfold State.roundTroubled
  split
  · have hremoved := h.removeKind .deal hs
    dsimp only
    split
    · exact h.toIdle (h.post _ hremoved)
    · exact h.toIdle hremoved
  · rename_i hstate
    exact h.spectates (by rw [hstate]; rfl) hs
  · rename_i hstate
    exact h.spectates (by rw [hstate]; rfl) hs
  all_goals exact hs

theorem discard (cause : DiscardCause) (hr : s.link.receiver ≠ .off) (hs : P s) : P (s.discard cause) := by
  have hafter : receiverAfter cause ≠ .off := by cases cause <;> simp [receiverAfter]
  have hdropped : P s.dropFrame := by
    refine h.frames none ?_ hs
    rw [List.map_map]
    exact List.Sublist.refl _
  have hcounted := h.discarded (s := s.dropFrame) hr hafter hdropped
  unfold State.discard
  dsimp only
  split
  · exact h.roundTroubled (h.speakRound _ (h.flags _ (h.post _ (h.troubled hcounted))))
  · exact hcounted

/-! ## Requests -/

theorem leaveRound (hs : P s) : P s.leaveRound := by
  unfold State.leaveRound
  split
  · exact hs
  · exact h.toIdle hs
  · exact h.toIdle hs
  · exact h.toIdle hs
  · exact h.toIdle (h.removeKind _ hs)
  all_goals exact h.toIdle (h.removePending (h.removeRoundFrames hs))

theorem endRound (hs : P s) : P s.endRound := by
  unfold State.endRound
  split
  · exact h.leaveRound (h.post _ hs)
  · exact h.leaveRound (h.post _ hs)
  all_goals exact h.leaveRound hs

end Kept
end Sys2Proof.Machine
end

section
/-! The commands and the step: a property that survives every change survives every step, but for the doze entry and the loss
of the word, which `Result` keeps apart. -/

namespace Sys2Proof.Machine

/-! ## The own REPLY's end -/

/-- When the own REPLY in flight ends, the answer slot is empty and no frame is in flight (R135, R143). -/
theorem State.frameEnds_answer {s : State} (h : s.sendingFrom .answer = true) (role n : Nat) :
    (s.frameEnds true role n).answer = none ∧ (s.frameEnds true role n).link.inFlight = none := by
  have hleaves : ∀ u : State, u.link.inFlight = s.link.inFlight →
      u.entryLeaves.answer = none ∧ u.entryLeaves.link.inFlight = none := by
    intro u hu
    unfold State.sendingFrom at h
    split at h
    · rename_i x hx
      have hplace : x.place = .answer := by simpa using h
      simp [State.entryLeaves, hu, hx, hplace]
    · cases h
  have hcount : ∀ u : State, u.countGood.link.inFlight = u.link.inFlight := by
    intro u
    unfold State.countGood
    split
    · rfl
    · split <;> simp
  apply hleaves
  simp [hcount, State.setReceiver]

/-- What a step makes of a property that survives every change: it is kept, or the step enters doze after changes that keep it,
or it loses the word after changes that keep it. -/
inductive Result (P : State → Prop) : State → Prop where
  | kept {t} : P t → Result P t
  | dozes {s u} (b : Bool) : P s → s.goingToDoze = true → P u → u.answer = none → u.link.inFlight = none →
      u.round = s.round → u.words = s.words → Result P (u.enterDoze b).grant
  | loses {u} : P u → u.round.state.circleOpen = true → Result P u.loseWord.grant

namespace Kept

variable {P : State → Prop} (h : Kept P) {s t : State}
include h

/-! ## Frame events -/

theorem frameEvent {act : State → State} {Q : State → Prop} (hQ : ∀ {u}, P u → Q u) (hs : P s)
    (hact : s.link.receiver ≠ .off → Q (act s).grant) (ht : frameEvent s act = .next t) : Q t := by
  unfold Machine.frameEvent at ht
  split at ht
  · cases ht
    exact hact (by simp [*])
  · cases ht
    exact hQ (h.receiver (by simp [*]) (by simp) hs)
  · cases ht; exact hQ hs
  · cases ht; exact hQ hs

theorem takePartFrame {f : Frame} {laptop : BitVec 3} (hr : s.link.receiver ≠ .off) (hs : P s) :
    P ((s.frameEnds (s.isOwn f) 1 laptop.toNat).rosterHears laptop.toNat) :=
  h.rosterHears laptop.isLt (h.frameEnds _ _ _ hr hs)

theorem request {run : State → State × Reply} (hs : P s)
    (hrun : ∀ u : State, u.answer = none → P u → P (run u).1 ∧ (run u).1.answer = none ∧
      ((run u).2.code = Config.codeDoze → (run u).2.outcome = .done →
        (run u).1.round.state = .idle ∧ (run u).1.words.state ≠ .loading))
    (ht : request s run = .next t) : P t := by
  refine h.frameEvent id hs (fun hr => h.grant ?_) ht
  have hheard := h.frameEnds false 0 s.laptop.toNat hr hs
  unfold State.takeRequest
  split
  · exact h.flags _ hheard
  · obtain ⟨hP, hnone, hdoze⟩ := hrun _ ‹_› hheard
    exact h.answered _ hnone hdoze hP

/-- A request whose reply is not the DONE of DOZE. -/
theorem plainRequest {run : State → State × Reply} (hs : P s)
    (hcode : ∀ u : State, (run u).2.code = Config.codeDoze → (run u).2.outcome ≠ .done)
    (hrun : ∀ u : State, u.answer = none → P u → P (run u).1 ∧ (run u).1.answer = none)
    (ht : Machine.request s run = .next t) : P t :=
  h.request hs (fun u hu hPu =>
    ⟨(hrun u hu hPu).1, (hrun u hu hPu).2, fun hc ho => absurd ho (hcode u hc)⟩) ht

/-! ## Requests (chapter 9) -/

theorem setupRequest (args : List Byte) (hs : P s) (ht : Machine.request s (setupRequest args) = .next t) : P t := by
  refine h.plainRequest hs (fun u => ?_) (fun u hu hP => ?_) ht
  · unfold Machine.setupRequest commitSetup stageSetup plainReply
    dsimp only
    (repeat' split) <;> simp
  · unfold Machine.setupRequest
    dsimp only
    split
    · rename_i htaken
      split
      · refine ⟨h.setup args _ ?_ hP, hu⟩
        simp only [State.setupTaken, Bool.and_eq_true, Bool.or_eq_true, beq_iff_eq] at htaken
        exact htaken.1
      · exact ⟨h.staged _ hP, hu⟩
    · exact ⟨hP, hu⟩

theorem loadListRequest (seated : Bool) (args : List Byte) (hs : P s)
    (ht : Machine.request s (loadListRequest seated args) = .next t) : P t := by
  refine h.plainRequest hs (fun u => ?_) (fun u hu hP => ?_) ht
  · unfold Machine.loadListRequest plainReply
    dsimp only
    split <;> simp
  · unfold Machine.loadListRequest
    dsimp only
    split
    · exact ⟨hP, hu⟩
    · rename_i htaken
      simp only [not_or, not_not] at htaken
      obtain ⟨hidle, hloading⟩ := htaken
      split
      · refine ⟨h.loaderAsksNow (h.loadStarts hidle hloading hu rfl hP), ?_⟩
        unfold State.loaderAsks
        (repeat' split) <;> simp [hu]
      · rw [State.endLoad_eq]
        exact ⟨h.post _ (h.loadAbsent hidle hloading hP), by simpa [State.loadEnded] using hu⟩

omit h in
/-- The state of a start request after its word has been found (R65, R154). -/
theorem startWord_cases {u v : State} {w x : Nat} (hw : u.startWord w = .ok (v, x)) :
    v = u.chose x ∨ v = u := by
  unfold State.startWord at hw
  split at hw
  · split at hw <;> cases hw
    exact .inl rfl
  · split at hw <;> cases hw
    exact .inr rfl

theorem startWord {u v : State} {w x : Nat} (hw : u.startWord w = .ok (v, x)) (hP : P u) :
    P v ∧ v.answer = u.answer ∧ v.round = u.round ∧ v.words = u.words := by
  obtain rfl | rfl := startWord_cases hw
  · exact ⟨h.chose _ hP, rfl, rfl, rfl⟩
  · exact ⟨hP, rfl, rfl, rfl⟩

theorem startSoloRequest (args : List Byte) (hs : P s) (ht : Machine.request s (startSoloRequest args) = .next t) :
    P t := by
  refine h.plainRequest hs (fun u => ?_) (fun u hu hP => ?_) ht
  · unfold Machine.startSoloRequest plainReply
    dsimp only
    (repeat' split) <;> simp
  · unfold Machine.startSoloRequest
    dsimp only
    split
    · exact ⟨hP, hu⟩
    · rename_i hcheck
      split
      · exact ⟨hP, hu⟩
      · rename_i v x hw
        obtain ⟨hPv, hanswer, -, hwords⟩ := h.startWord hw hP
        have hloading : u.words.state ≠ .loading := by
          intro hl
          simp [State.soloCheck, hl] at hcheck
        refine ⟨h.queuePrompt (h.opensSolo x (by rw [hanswer, hu]) (by rw [hwords]; exact hloading) hPv), ?_⟩
        simp [hanswer, hu]

theorem startCircleRequest (args : List Byte) (hs : P s)
    (ht : Machine.request s (startCircleRequest args) = .next t) : P t := by
  refine h.plainRequest hs (fun u => ?_) (fun u hu hP => ?_) ht
  · unfold Machine.startCircleRequest plainReply
    dsimp only
    (repeat' split) <;> simp
  · unfold Machine.startCircleRequest
    dsimp only
    split
    · exact ⟨hP, hu⟩
    · rename_i hcheck
      split
      · exact ⟨hP, hu⟩
      · rename_i v x hw
        obtain ⟨hPv, hanswer, hround, -⟩ := h.startWord hw hP
        have hidle : u.round.state = .idle := by
          by_contra hi
          simp [State.circleCheck, State.soloCheck, hi] at hcheck
        unfold State.beginDeal
        refine ⟨h.deals _ ?_ ?_ (h.queueFrame _ _ hPv), ?_⟩
        · simp [hanswer, hu]
        · simpa [hround] using hidle
        · simp [hanswer, hu]

omit h in
theorem endRound_answer (u : State) : u.endRound.answer = u.answer := by
  unfold State.endRound State.leaveRound
  split <;> split <;> simp

theorem endRoundRequest (args : List Byte) (hs : P s) (ht : Machine.request s (endRoundRequest args) = .next t) :
    P t :=
  h.plainRequest hs (fun u => by simp [Machine.endRoundRequest, plainReply])
    (fun u hu hP => ⟨h.endRound hP, (endRound_answer u).trans hu⟩) ht

theorem sayRequest (args : List Byte) (hs : P s) (ht : Machine.request s (sayRequest args) = .next t) : P t :=
  h.plainRequest hs (fun u => by simp [Machine.sayRequest, plainReply])
    (fun u hu hP => ⟨h.offer _ _ (by simp [State.sayEntry]) hP, by simp [Machine.sayRequest, hu]⟩) ht

theorem spellRequest (args : List Byte) (hs : P s) (ht : Machine.request s (spellRequest args) = .next t) : P t := by
  refine h.plainRequest hs (fun u => ?_) (fun u hu hP => ?_) ht
  · unfold Machine.spellRequest plainReply
    dsimp only
    (repeat' split) <;> simp
  · unfold Machine.spellRequest
    dsimp only
    split
    · exact ⟨hP, hu⟩
    · have hcomposed := h.compose (((u.wordAt (byteAt args 0)).map (·.letters)).getD []) hP
      have hanswer : (u.compose (((u.wordAt (byteAt args 0)).map (·.letters)).getD [])).1.answer = none := by
        simp [hu]
      split
      · rename_i v hv
        rw [hv] at hcomposed hanswer
        dsimp only
        split
        · exact ⟨h.post _ hcomposed, by simpa using hanswer⟩
        · exact ⟨hcomposed, hanswer⟩
      · rename_i v x hv
        rw [hv] at hcomposed hanswer
        exact ⟨h.offer _ _ (by simp [State.entry]) hcomposed, by simpa using hanswer⟩

theorem stopRequest (args : List Byte) (hs : P s) (ht : Machine.request s (stopRequest args) = .next t) : P t := by
  refine h.plainRequest hs (fun u => by simp [Machine.stopRequest, plainReply])
    (fun u hu hP => ⟨h.stopNamed _ hP, ?_⟩) ht
  show (u.stopNamed _).answer = none
  unfold State.stopNamed
  split <;> simp [hu]

theorem progressRequest (args : List Byte) (hs : P s) (ht : Machine.request s (progressRequest args) = .next t) :
    P t := by
  refine h.plainRequest hs (fun u => ?_) (fun u hu hP => ⟨hP, hu⟩) ht
  unfold Machine.progressRequest plainReply
  dsimp only
  (repeat' split) <;> simp

theorem excludeRequest (args : List Byte) (hs : P s) (ht : Machine.request s (excludeRequest args) = .next t) : P t :=
  h.plainRequest hs (fun u => by simp [Machine.excludeRequest, plainReply])
    (fun u hu hP => ⟨h.excluded _ _ _ hP, hu⟩) ht

theorem rosterRequest (args : List Byte) (hs : P s) (ht : Machine.request s (rosterRequest args) = .next t) : P t := by
  refine h.plainRequest hs (fun u => ?_) (fun u hu hP => ⟨hP, hu⟩) ht
  unfold Machine.rosterRequest
  dsimp only
  split <;> simp

omit h in
theorem leaveRound_idle (u : State) : u.leaveRound.round.state = .idle := by
  unfold State.leaveRound
  split
  · assumption
  all_goals rfl

omit h in
theorem leaveRound_answer (u : State) : u.leaveRound.answer = u.answer := by
  unfold State.leaveRound
  split <;> simp

theorem restart (hs : P s) : P s.restart := by
  have hround := h.restarts (leaveRound_idle s) (h.leaveRound hs)
  exact h.emptyQueue (h.keysLeave (List.nil_sublist _) (h.stopBoth true hround))

theorem restartRequest (args : List Byte) (hs : P s) (ht : Machine.request s (restartRequest args) = .next t) : P t := by
  refine h.plainRequest hs (fun u => by simp [Machine.restartRequest, plainReply])
    (fun u hu hP => ⟨h.restart hP, ?_⟩) ht
  show u.restart.answer = none
  simp [State.restart, leaveRound_answer, hu]

theorem dozeRequest (args : List Byte) (hs : P s) (ht : Machine.request s (dozeRequest args) = .next t) : P t := by
  refine h.request hs (fun u hu hP => ⟨hP, hu, fun _ hdone => ?_⟩) ht
  have hbusy : u.dozeBusy = false := by
    by_contra hbusy
    simp [Machine.dozeRequest, plainReply, hbusy] at hdone
  simp only [State.dozeBusy, Bool.or_eq_false_iff, bne_eq_false_iff_eq, beq_eq_false_iff_ne] at hbusy
  exact ⟨hbusy.1.1.1.1, hbusy.1.1.1.2⟩

end Kept

end Sys2Proof.Machine
end

section
/-! Transfers, ticks, line and frames, and the step itself: `Kept.exec`. -/

namespace Sys2Proof.Machine

/-- Once the aged entries have left, every age is below 2 (R150). -/
theorem State.removeAged_young (s : State) : ∀ e ∈ s.removeAged.roster, ∀ x, e = some x → x.age < 2 := by
  have hroster : s.removeAged.roster = s.roster.map (fun e => e.filter (fun e => decide (e.age < 2))) :=
    foldl_holds _ (fun t => t.roster = s.roster.map (fun e => e.filter (fun e => decide (e.age < 2))))
      (fun u n hu => by simpa using hu) _ _ rfl
  intro e he x hx
  rw [hroster] at he
  obtain ⟨o, -, rfl⟩ := List.mem_map.mp he
  simpa using (Option.filter_eq_some_iff.mp hx).2

namespace Kept

variable {P : State → Prop} (h : Kept P) {s t : State}
include h

/-! ## Ends of transfers (R99) -/

theorem transferEvent {fits : TransferKind → Bool} {hand : Transfer → State → State} (hs : P s)
    (hhand : ∀ x, s.port.inFlight = some x → fits x.kind = true → P (hand x s.transferEnds))
    (ht : transferEvent s fits hand = .next t) : P t := by
  obtain ⟨x, hport, hfits, heq⟩ | ⟨-, heq⟩ := transferEvent_cases s fits hand <;> rw [heq] at ht <;> cases ht
  · exact h.grant (hhand x hport hfits)
  · exact hs

theorem voiceTakes {x : Transfer} (v : VoiceId) {take : Context → Context} (hentry : ∀ c, (take c).entry = c.entry)
    (hs : P s) : P (s.voiceTakes v x take) := by
  unfold State.voiceTakes
  split
  · exact h.goOn v hs
  · split
    · exact h.goOn v (h.taken _ ‹_› (hentry _) hs)
    · exact hs

theorem frameArrives {x : Transfer} (v : VoiceId) (bytes : List Byte) (hs : P s) : P (s.frameArrives v x bytes) := by
  unfold State.frameArrives
  split
  · exact h.goOn v hs
  · split
    · refine h.goOn v (h.taken _ ‹_› ?_ hs)
      unfold passFrame
      split <;> rfl
    · exact hs

theorem phraseDirectoryFetch (bytes : List Byte) (hs : P s) (ht : execPhraseDirectoryFetch bytes s = .next t) : P t := by
  refine h.transferEvent hs (fun x hport _ => ?_) ht
  have hfreed := h.freed hport hs
  unfold handPhraseEntry
  split
  · refine h.voiceTakes _ (fun c => ?_) hfreed
    unfold takeEntry
    split <;> rfl
  · exact h.readerTakesEntry _ hport ‹_› hs
  · exact hfreed

theorem segmentDirectoryFetch (bytes : List Byte) (hs : P s) (ht : execSegmentDirectoryFetch bytes s = .next t) :
    P t := by
  refine h.transferEvent hs (fun x hport _ => ?_) ht
  have hfreed := h.freed hport hs
  unfold handSegment
  split
  · refine h.voiceTakes _ (fun c => ?_) hfreed
    unfold takeSegment
    split <;> rfl
  · exact hfreed
  · exact hfreed

omit h in
theorem takeDescriptor_entry (d : Descriptor) (c : Context) : (takeDescriptor d c).entry = c.entry := by
  unfold takeDescriptor
  split <;> rfl

theorem romDescriptorFetch (bytes : List Byte) (hs : P s) (ht : execRomDescriptorFetch bytes s = .next t) : P t := by
  refine h.transferEvent hs (fun x hport _ => ?_) ht
  have hfreed := h.freed hport hs
  unfold handDescriptor
  split
  · exact h.voiceTakes _ (takeDescriptor_entry _) hfreed
  · exact h.readerTakesDescriptor _ hport ‹_› hs
  · exact hfreed

theorem ramDescriptorFetch (hs : P s) (ht : execRamDescriptorFetch s = .next t) : P t := by
  refine h.transferEvent hs (fun x hport _ => ?_) ht
  have hfreed := h.freed hport hs
  unfold handSlot
  split
  · exact h.voiceTakes _ (takeDescriptor_entry _) hfreed
  · exact hfreed
  · exact hfreed

theorem frameFetch (bytes : List Byte) (hs : P s) (ht : execFrameFetch bytes s = .next t) : P t := by
  refine h.transferEvent hs (fun x hport _ => ?_) ht
  have hfreed := h.freed hport hs
  unfold handFrame
  split
  · exact h.frameArrives _ _ hfreed
  · exact hfreed
  · exact hfreed

theorem headerTransfer (bytes : List Byte) (hs : P s) (ht : execHeaderTransfer bytes s = .next t) : P t :=
  h.transferEvent hs (fun _ hport hfits => h.loaderTakes hport hs
    (fun _ hl hd => h.takeHeader bytes hport (by simpa using hfits) hd hl hs)) ht

theorem countByteTransfer (count : Byte) (hs : P s) (ht : execCountByteTransfer count s = .next t) : P t :=
  h.transferEvent hs (fun _ hport hfits => h.loaderTakes hport hs
    (fun _ hl hd => h.takeCountByte count hport hfits hd hl hs)) ht

theorem bodyTransfer (bytes : List Byte) (hs : P s) (ht : execBodyTransfer bytes s = .next t) : P t :=
  h.transferEvent hs (fun _ hport hfits => h.loaderTakes hport hs
    (fun _ hl hd => h.takeBody bytes hport hfits hd hl hs)) ht

theorem cartridgeRemovedEvent (hs : P s) (ht : execCartridgeRemoved s = .next t) : P t := by
  unfold execCartridgeRemoved at ht
  split at ht <;> cases ht
  · rw [State.endLoad_eq]
    exact h.post _ (h.cartridgeRemoved ‹_› hs)
  · exact hs

/-! ## Sound and keys -/

theorem samplePeriod (a b : BitVec 12) (hs : P s) (ht : execSamplePeriod a b s = .next t) : P t := by
  unfold execSamplePeriod at ht
  cases ht
  unfold State.mix
  dsimp only
  split
  · exact h.output ‹_› hs
  · exact h.flags _ (h.clipped _ hs)

theorem scanPass (down : BitVec 64) (hs : P s) (ht : execScanPass down s = .next t) : P t := by
  unfold execScanPass at ht
  split at ht <;> cases ht
  · exact hs
  · exact h.scan down hs
  · exact h.scan down hs

theorem keyEvent {fits : Nat → Bool} {use : Nat → State → State} (hs : P s)
    (huse : ∀ k {u : State}, P u → P (use k u)) (ht : keyEvent s fits use = .next t) : P t := by
  obtain ⟨k, -, -, heq⟩ | ⟨-, heq⟩ := keyEvent_cases s fits use <;> rw [heq] at ht <;> cases ht
  · exact h.grant (huse k (h.dropKey hs))
  · exact hs

theorem letterKey (hs : P s) (ht : execLetterKey s = .next t) : P t := by
  refine h.keyEvent hs (fun k u hu => ?_) ht
  unfold useLetter
  split
  · exact h.soloLetter _ ‹_› hu
  · exact h.circleLetter _ ‹_› hu
  · exact h.unusedKey k hu

theorem eraseKey (hs : P s) (ht : execEraseKey s = .next t) : P t := by
  refine h.keyEvent hs (fun k u hu => ?_) ht
  unfold useErase
  split
  · exact h.soloErase ‹_› hu
  · exact h.speakOwn _ hu
  · exact h.unusedKey k hu

theorem doneKey (hs : P s) (ht : execDoneKey s = .next t) : P t := by
  refine h.keyEvent hs (fun k u hu => ?_) ht
  unfold useDone
  split
  · exact h.soloDone ‹_› hu
  · exact h.reviewDone hu
  · exact h.circleDone hu
  · exact h.unusedKey k hu

theorem repeatKey (hs : P s) (ht : execRepeatKey s = .next t) : P t := by
  refine h.keyEvent hs (fun k u hu => ?_) ht
  unfold useRepeat
  split
  · exact h.sayAgain hu
  · exact h.sayAgain hu
  · exact h.unusedKey k hu

theorem hintKey (hs : P s) (ht : execHintKey s = .next t) : P t := by
  refine h.keyEvent hs (fun k u hu => ?_) ht
  unfold useHint
  split
  · exact h.giveHint hu
  · exact h.giveHint hu
  · exact h.unusedKey k hu

/-! ## Timers and doze -/

theorem roundTimerExpiry (hs : P s) (ht : execRoundTimerExpiry s = .next t) : P t := by
  unfold execRoundTimerExpiry at ht
  split at ht <;> cases ht
  · exact h.grant (h.soloExpires ‹_› hs)
  · exact hs

theorem circleTimerExpiry (hs : P s) (ht : execCircleTimerExpiry s = .next t) : P t := by
  unfold execCircleTimerExpiry at ht
  split at ht <;> cases ht
  · exact h.grant (h.circleExpires hs)
  · exact hs

theorem beatTick (hs : P s) (ht : execBeatTick s = .next t) : P t := by
  have hbeat : P (if s.setup.beat then s.queueBeat (beatBody s) else s) := by
    split
    · exact h.beatQueued _ hs
    · exact hs
  unfold execBeatTick at ht
  split at ht <;> cases ht
  · exact h.clashFades (h.ages (State.removeAged_young _) (h.removeAged hbeat))
  · exact hs
  · exact hs

theorem rosterAgeOut (hs : P s) (ht : execRosterAgeOut s = .next t) : P t := by
  unfold execRosterAgeOut at ht
  split at ht <;> cases ht
  · exact h.removeAged hs
  · exact hs
  · exact hs

theorem wake (cause : WakeCause) (hdozing : s.power = .dozing) (hs : P s) : P (s.wake cause) :=
  h.keysUp (h.wakes cause hdozing hs)

theorem keyWake (hs : P s) (ht : execKeyWake s = .next t) : P t := by
  unfold execKeyWake at ht
  split at ht <;> cases ht
  · exact h.wake _ ‹_› hs
  · exact hs
  · exact hs

theorem linkWake (hs : P s) (ht : execLinkWake s = .next t) : P t := by
  unfold execLinkWake at ht
  split at ht <;> cases ht
  · exact h.wake _ ‹_› hs
  · exact hs
  · exact hs

theorem settleEnd (hs : P s) (ht : execSettleEnd s = .next t) : P t := by
  unfold execSettleEnd at ht
  split at ht <;> cases ht
  · exact h.post _ (h.settles (by simp [*]) hs)
  · exact hs
  · exact hs

/-! ## The line (R126 to R130, R142) -/

theorem offerFrame (cell : Nat) (hr : s.link.receiver ≠ .off) (hs : P s) : P (s.offerFrame cell) := by
  have hmarked : ∀ (p : TxKind → Bool) (q : List TxEntry), (markSending p q).map (·.kind) = q.map (·.kind) := by
    intro p q
    induction q with
    | nil => rfl
    | cons e q ih =>
      unfold markSending
      split
      · rfl
      · simp [ih]
  have hqueue : ∀ p f, P (s.setLink { s.link with queue := markSending p s.link.queue, inFlight := f }) := fun p f =>
    h.frames f (by rw [hmarked]) hs
  have hchosen : ∀ l, s.chosen = some l → P (s.setLink l) ∧ l.receiver = s.link.receiver := by
    intro l hl
    unfold State.chosen at hl
    split at hl
    · cases hl; exact ⟨hqueue _ _, rfl⟩
    · split at hl
      · cases hl; exact ⟨hqueue _ _, rfl⟩
      · split at hl
        · cases hl; exact ⟨h.frames _ (List.Sublist.refl _) hs, rfl⟩
        · split at hl
          · cases hl; exact ⟨h.frames _ (List.Sublist.refl _) hs, rfl⟩
          · obtain ⟨e, -, rfl⟩ := Option.map_eq_some_iff.mp hl
            exact ⟨hqueue _ _, rfl⟩
  unfold State.offerFrame
  split
  · obtain ⟨hl, hreceiver⟩ := hchosen _ ‹_›
    exact h.receiver (by simpa [hreceiver] using hr) (by simp) hl
  · exact hs

theorem openingLow (hs : P s) (ht : execOpeningLow s = .next t) : P t := by
  unfold execOpeningLow at ht
  split at ht <;> cases ht
  · exact h.offerFrame 0 (by simp [State.setReceiver]) (h.receiver (by simp [*]) (by simp) hs)
  · exact h.receiver (by simp [*]) (by simp) hs
  · exact hs
  · exact hs

theorem glitch (hs : P s) (ht : execGlitch s = .next t) : P t := by
  unfold execGlitch at ht
  split at ht
  · split at ht <;> cases ht
    · exact h.receiver (by simp [*]) (by simp) hs
    · exact hs
  · cases ht; exact hs

theorem quietGap (cells : Nat) (hs : P s) (ht : execQuietGap cells s = .next t) : P t := by
  unfold execQuietGap at ht
  split at ht
  · split at ht <;> cases ht
    · exact h.receiver (by simp [*]) (by simp) hs
    · exact h.receiver (by simp [*]) (by simp) hs
  all_goals cases ht; exact hs

theorem lowInGapWait (hs : P s) (ht : execLowInGapWait s = .next t) : P t := by
  unfold execLowInGapWait at ht
  split at ht <;> cases ht
  · exact h.receiver (by simp [*]) (by simp) hs
  all_goals exact hs

theorem frameOffer (cell : Nat) (hs : P s) (ht : execFrameOffer cell s = .next t) : P t := by
  unfold execFrameOffer at ht
  split at ht
  · cases ht; exact h.offerFrame _ (by simp [*]) hs
  · split at ht <;> cases ht
    · exact h.offerFrame _ (by simp [*]) hs
    · exact hs
  · cases ht; exact hs

theorem dropFrame (hs : P s) : P s.dropFrame := by
  refine h.frames none ?_ hs
  rw [List.map_map]
  exact List.Sublist.refl _

theorem arbitrationLoss (cell : Nat) (hs : P s) (ht : execArbitrationLoss cell s = .next t) : P t := by
  unfold execArbitrationLoss at ht
  split at ht
  · have hreached := h.receiver (s := s) (x := .inFrame cell) (by simp [*]) (by simp) hs
    split at ht
    · split at ht <;> cases ht
      · exact h.dropFrame hreached
      · exact hreached
    · cases ht; exact hs
  · cases ht; exact hs

/-! ## Good frames (R134 to R137) -/

theorem frameDiscard (cause : DiscardCause) (hs : P s) (ht : execFrameDiscard cause s = .next t) : P t :=
  h.frameEvent id hs (fun hr => h.grant (h.discard cause hr hs)) ht

theorem beatFrame (p : Byte) (l : BitVec 3) (i : BitVec 16) (x y : Byte) (hs : P s)
    (ht : execBeatFrame p l i x y s = .next t) : P t :=
  h.frameEvent id hs (fun hr => h.grant (h.noteIdentity _ _ (h.takePartFrame hr hs))) ht

theorem dealFrame (p : Byte) (l : BitVec 3) (i : BitVec 16) (w x c : Byte) (hs : P s)
    (ht : execDealFrame p l i w x c s = .next t) : P t :=
  h.frameEvent id hs (fun hr => h.grant (h.takeDeal _ _ _ _ _ (h.countDeal _ (h.takePartFrame hr hs)))) ht

theorem letterFrame (p : Byte) (l : BitVec 3) (x n y c : Byte) (hs : P s)
    (ht : execLetterFrame p l x n y c s = .next t) : Result P t := by
  refine h.frameEvent .kept hs (fun hr => ?_) ht
  have hheard := h.takePartFrame (f := partFrame Config.kindLetter p l [x, n, y, c]) (laptop := l) hr hs
  obtain hkept | ⟨hopen, hloses⟩ := h.takeLetter (s.isOwn (partFrame Config.kindLetter p l [x, n, y, c])) l.toNat x.toNat
    n.toNat y.toNat c.toNat hheard
  · exact .kept (h.grant hkept)
  · show Result P (State.takeLetter _ _ _ _ _ _ _).grant
    rw [hloses]
    exact .loses hheard hopen

theorem closeFrame (p : Byte) (l : BitVec 3) (x n c : Byte) (hs : P s)
    (ht : execCloseFrame p l x n c s = .next t) : P t :=
  h.frameEvent id hs (fun hr => h.grant (h.takeClose _ _ _ (h.takePartFrame hr hs))) ht

theorem reportFrame (hs : P s) (ht : execReportFrame s = .next t) : P t := by
  unfold execReportFrame at ht
  split at ht
  · exact h.frameEvent id hs (fun hr => h.grant (h.frameEnds _ _ _ hr hs)) ht
  · cases ht; exact hs

theorem otherFrame (p k : Byte) (body : List Byte) (hs : P s) (ht : execOtherFrame p k body s = .next t) : P t := by
  refine h.frameEvent id hs (fun hr => h.grant ?_) ht
  have hcounted := h.frameEnds false (kindRole k) (kindLaptop k) hr hs
  dsimp only
  split
  · exact h.rosterHears (Nat.mod_lt _ (by decide)) hcounted
  · exact hcounted

theorem replyFrame (b : Bool) (hs : P s) (ht : execReplyFrame b s = .next t) : Result P t := by
  unfold execReplyFrame at ht
  split at ht
  · rename_i hsending
    refine h.frameEvent .kept hs (fun hr => ?_) ht
    have hended := h.frameEnds true 1 s.laptop.toNat hr hs
    obtain ⟨hanswer, hflight⟩ := State.frameEnds_answer hsending 1 s.laptop.toNat
    unfold State.replyEnds
    split
    · exact .kept (h.grant hended)
    · rename_i r hr
      have hstatus : P (if r.code = Config.codeStatus then (s.frameEnds true 1 s.laptop.toNat).statusSent
          else s.frameEnds true 1 s.laptop.toNat) := by
        split
        · exact h.statusSent (h.flags _ hended)
        · exact hended
      dsimp only
      split
      · rename_i hdoze
        have hcode : r.code ≠ Config.codeStatus := by
          intro hc
          simp [State.goingToDoze, hr, hc] at hdoze
        rw [if_neg hcode]
        exact .dozes b hs hdoze hended hanswer hflight (by simp) (by simp)
      · exact .kept (h.grant hstatus)
  · cases ht; exact .kept hs

/-! ## The step -/

theorem exec (i : Instr) (hs : P s) (ht : exec i s = .next t) : Result P t := by
  cases i with
  | reset l => cases ht; exact .kept (h.reset _ _)
  | setup args => exact .kept (h.setupRequest args hs ht)
  | setupStage args => exact .kept (h.setupRequest args hs ht)
  | loadList seated args => exact .kept (h.loadListRequest seated args hs ht)
  | startSolo args => exact .kept (h.startSoloRequest args hs ht)
  | startCircle args => exact .kept (h.startCircleRequest args hs ht)
  | endRound args => exact .kept (h.endRoundRequest args hs ht)
  | say args => exact .kept (h.sayRequest args hs ht)
  | spell args => exact .kept (h.spellRequest args hs ht)
  | stop args => exact .kept (h.stopRequest args hs ht)
  | status args =>
    exact .kept (h.plainRequest hs (fun u => by simp [statusRequest, plainReply]) (fun u hu hP => ⟨hP, hu⟩) ht)
  | progress args => exact .kept (h.progressRequest args hs ht)
  | exclude args => exact .kept (h.excludeRequest args hs ht)
  | roster args => exact .kept (h.rosterRequest args hs ht)
  | restart args => exact .kept (h.restartRequest args hs ht)
  | doze args => exact .kept (h.dozeRequest args hs ht)
  | unknownRequest code args =>
    exact .kept (h.plainRequest hs (fun u => by simp [unknownRequest, plainReply]) (fun u hu hP => ⟨hP, hu⟩) ht)
  | headerTransfer bytes => exact .kept (h.headerTransfer bytes hs ht)
  | countByteTransfer count => exact .kept (h.countByteTransfer count hs ht)
  | bodyTransfer bytes => exact .kept (h.bodyTransfer bytes hs ht)
  | cartridgeRemoved => exact .kept (h.cartridgeRemovedEvent hs ht)
  | phraseDirectoryFetch bytes => exact .kept (h.phraseDirectoryFetch bytes hs ht)
  | segmentDirectoryFetch bytes => exact .kept (h.segmentDirectoryFetch bytes hs ht)
  | romDescriptorFetch bytes => exact .kept (h.romDescriptorFetch bytes hs ht)
  | ramDescriptorFetch => exact .kept (h.ramDescriptorFetch hs ht)
  | frameFetch bytes => exact .kept (h.frameFetch bytes hs ht)
  | frameBoundary v => cases ht; exact .kept (h.grant (h.boundary v hs))
  | samplePeriod a b => exact .kept (h.samplePeriod a b hs ht)
  | scanPass down => exact .kept (h.scanPass down hs ht)
  | letterKey => exact .kept (h.letterKey hs ht)
  | eraseKey => exact .kept (h.eraseKey hs ht)
  | doneKey => exact .kept (h.doneKey hs ht)
  | repeatKey => exact .kept (h.repeatKey hs ht)
  | hintKey => exact .kept (h.hintKey hs ht)
  | otherKey => exact .kept (h.keyEvent hs (fun k _ => h.unusedKey k) ht)
  | roundTimerExpiry => exact .kept (h.roundTimerExpiry hs ht)
  | circleTimerExpiry => exact .kept (h.circleTimerExpiry hs ht)
  | beatTick => exact .kept (h.beatTick hs ht)
  | rosterAgeOut => exact .kept (h.rosterAgeOut hs ht)
  | keyWake => exact .kept (h.keyWake hs ht)
  | linkWake => exact .kept (h.linkWake hs ht)
  | settleEnd => exact .kept (h.settleEnd hs ht)
  | openingLow => exact .kept (h.openingLow hs ht)
  | glitch => exact .kept (h.glitch hs ht)
  | quietGap cells => exact .kept (h.quietGap cells hs ht)
  | frameOffer cell => exact .kept (h.frameOffer cell hs ht)
  | arbitrationLoss cell => exact .kept (h.arbitrationLoss cell hs ht)
  | frameDiscard cause => exact .kept (h.frameDiscard cause hs ht)
  | beatFrame p l i x y => exact .kept (h.beatFrame p l i x y hs ht)
  | dealFrame p l i w x c => exact .kept (h.dealFrame p l i w x c hs ht)
  | letterFrame p l x n y c => exact h.letterFrame p l x n y c hs ht
  | closeFrame p l x n c => exact .kept (h.closeFrame p l x n c hs ht)
  | replyFrame b => exact h.replyFrame b hs ht
  | reportFrame => exact .kept (h.reportFrame hs ht)
  | otherFrame p k body => exact .kept (h.otherFrame p k body hs ht)
  | lowInGapWait => exact .kept (h.lowInGapWait hs ht)

theorem step (hs : P s) (ht : step s = .next t) : Result P t := by
  unfold Machine.step at ht
  split at ht
  · cases ht; exact .kept hs
  · exact h.exec _ (h.pending _ hs) ht

theorem enterDoze (hpower : ∀ {s : State} x, P s → P (s.setPower x)) (hoff : ∀ {s : State}, P s → P (s.setReceiver .off))
    (b : Bool) (hs : P s) : P (s.enterDoze b).grant := by
  have hdozing := h.keysUp (hpower .dozing (h.stopBoth false (hoff (h.emptyQueue hs))))
  refine h.grant ?_
  unfold State.enterDoze
  dsimp only
  split
  · exact h.keysUp (hpower _ hdozing)
  · exact hdozing

/-- A property that survives the doze entry's and the loss's own changes too survives every step. -/
theorem step_kept (hpower : ∀ {s : State} x, P s → P (s.setPower x)) (hoff : ∀ {s : State}, P s → P (s.setReceiver .off))
    (hrelease : ∀ {s : State}, P s → P ((s.setAttempt { s.attempt with target := none }).setRows []))
    (hlost : ∀ {s : State}, P s → P (s.setRoundState .circleLost))
    (hs : P s) (ht : Machine.step s = .next t) : P t := by
  obtain hkept | ⟨b, -, -, hu, -, -, -, -⟩ | ⟨hu, -⟩ := h.step hs ht
  · exact hkept
  · exact h.enterDoze hpower hoff b hu
  · refine h.grant (hlost (h.speakRound _ ?_))
    split
    · exact hrelease (h.removePending (h.removeRoundFrames hu))
    · exact hu

end Kept

/-- A property that does not look at the voices survives every step when it survives all the other changes. -/
theorem Parts.step {P : State → Prop} (h : Parts P) {s t : State} (hs : P s) (ht : Machine.step s = .next t)
    (hvoice : ∀ {s : State} v x, P s → P (s.setVoice v x) := by intro _ v _ hs; cases v <;> exact hs)
    (hpower : ∀ {s : State} x, P s → P (s.setPower x) := by intros; assumption)
    (hoff : ∀ {s : State}, P s → P (s.setReceiver .off) := by intros; assumption)
    (hrelease : ∀ {s : State}, P s → P ((s.setAttempt { s.attempt with target := none }).setRows []) := by
      intros; assumption)
    (hlost : ∀ {s : State}, P s → P (s.setRoundState .circleLost) := by intros; assumption) :
    P t :=
  Kept.step_kept { toParts := h, toKeptBySpeech := h.toSpeechParts.kept hvoice } hpower hoff hrelease hlost hs ht

end Sys2Proof.Machine
end

section
/-! The ranges of counts, setup values, pairs, windows and progress entries (R13, R22, R45, R72, R123, R134, R173). -/

namespace Sys2Proof.Machine

theorem raise_le {limit n : Nat} : raise limit n ≤ limit := Nat.min_le_left _ _

theorem clamp_mem {low high : Nat} (h : low ≤ high) (n : Nat) : low ≤ clamp low high n ∧ clamp low high n ≤ high := by
  unfold clamp
  omega

/-! ## Counts and the speaker's sample -/

theorem countsInRange_parts : Parts State.countsInRange where
  reset _ _ := (by decide : State.reset.countsInRange)
  underrun := by rintro s ⟨h1, h2, h3, h4, -, h⟩; exact ⟨h1, h2, h3, h4, raise_le, h⟩
  clipped := by rintro s raw ⟨h1, h2, h3, h4, h5, -, h⟩; exact ⟨h1, h2, h3, h4, h5, raise_le, h⟩
  statusSent := by rintro s ⟨h1, h2, h3, h4, -, -, h⟩; exact ⟨h1, h2, h3, h4, Nat.zero_le _, Nat.zero_le _, h⟩
  goodOnClear := by
    rintro s hstate ⟨h1, h2, h3, h4, h5, h6, -, h7⟩; exact ⟨h1, h2, h3, h4, h5, h6, Nat.zero_le _, h7⟩
  goodOnTroubled := by
    rintro s hstate hcount ⟨h1, h2, h3, h4, h5, h6, -, -, h7, -⟩
    exact ⟨h1, h2, h3, h4, h5, h6, Nat.zero_le _, Nat.le_of_lt_succ hcount, h7, fun hc => by simp [hstate] at hc⟩
  goodClears := by
    rintro s ⟨h1, h2, h3, h4, h5, h6, -, -, h7, -⟩
    exact ⟨h1, h2, h3, h4, h5, h6, Nat.zero_le _, Nat.zero_le _, h7, fun _ => rfl⟩
  clash := by
    rintro s ⟨h1, h2, h3, h4, h5, h6, h7, h8, -, h9⟩; exact ⟨h1, h2, h3, h4, h5, h6, h7, h8, le_refl 3, h9⟩
  clashFades := by
    rintro s ⟨h1, h2, h3, h4, h5, h6, h7, h8, h9, h10⟩
    exact ⟨h1, h2, h3, h4, h5, h6, h7, h8, (Nat.sub_le _ _).trans h9, h10⟩
  discarded := by
    rintro s x - - ⟨h1, h2, h3, h4, h5, h6, -, -, h7, -⟩
    exact ⟨h1, h2, h3, h4, h5, h6, raise_le, Nat.zero_le _, h7, fun _ => rfl⟩
  troubled := by
    rintro s ⟨h1, h2, h3, h4, h5, h6, h7, -, h8, -⟩
    exact ⟨h1, h2, h3, h4, h5, h6, h7, Nat.zero_le _, h8, fun _ => rfl⟩
  opensSolo := by
    rintro s w - - ⟨-, -, -, h⟩; exact ⟨Nat.zero_le _, Nat.zero_le _, Nat.zero_le _, h⟩
  opensCircle := by
    rintro s w tag - - ⟨-, -, -, h⟩; exact ⟨Nat.zero_le _, Nat.zero_le _, Nat.zero_le _, h⟩
  watches := by
    rintro s w tag - ⟨-, -, -, h⟩; exact ⟨Nat.zero_le _, Nat.zero_le _, Nat.zero_le _, h⟩
  restarts := by
    rintro s - ⟨-, -, -, h⟩; exact ⟨Nat.zero_le _, Nat.zero_le _, Nat.zero_le _, h⟩
  tagNoted := by
    rintro s tag ⟨h1, h2, h3, -, h⟩; exact ⟨h1, h2, h3, Nat.mod_lt _ (by decide), h⟩
  missed := by rintro s hm ⟨h1, -, h⟩; exact ⟨h1, hm, h⟩
  missesEnd := by rintro s ⟨h1, -, h⟩; exact ⟨h1, Nat.zero_le _, h⟩
  reveals := by rintro s ⟨h1, -, -, h⟩; exact ⟨h1, Nat.zero_le _, raise_le, h⟩
  hints := by rintro s hh ⟨-, h2, -, h⟩; exact ⟨hh, h2, raise_le, h⟩
  landsSolo := by rintro s x - - ⟨h1, -, h⟩; exact ⟨h1, Nat.zero_le _, h⟩
  erases := by rintro s - - ⟨h1, -, h⟩; exact ⟨h1, Nat.zero_le _, h⟩
  keepsPending := by rintro s x - - - ⟨h1, -, h⟩; exact ⟨h1, Nat.zero_le _, h⟩
  removesPending := by rintro s - ⟨h1, -, h⟩; exact ⟨h1, Nat.zero_le _, h⟩
  landsOwn := by rintro s x rest - - ⟨h1, -, h⟩; exact ⟨h1, Nat.zero_le _, h⟩
  landsPeer := by rintro s x - - - ⟨h1, -, h⟩; exact ⟨h1, Nat.zero_le _, h⟩
  landsWatched := by rintro s x - - ⟨h1, -, h⟩; exact ⟨h1, Nat.zero_le _, h⟩

theorem countsInRange_step {s t : State} (hs : s.countsInRange) (ht : step s = .next t) : t.countsInRange :=
  countsInRange_parts.step hs ht

theorem clampSample_mem (x : Int) : -2048 ≤ clampSample x ∧ clampSample x ≤ 2047 := by
  unfold clampSample
  omega

theorem outputInRange_parts : Parts State.outputInRange where
  reset _ _ := (by decide : State.reset.outputInRange)
  output hraw _ := hraw ▸ clampSample_mem _
  clipped raw _ := clampSample_mem raw

theorem outputInRange_step {s t : State} (hs : s.outputInRange) (ht : step s = .next t) : t.outputInRange :=
  outputInRange_parts.step hs ht

/-! ## Setup values and the confusable-pair table (R22, R173) -/

theorem setupOf_inRange (s : State) (args : List Byte) : (s.setSetup (setupOf args)).setupInRange := by
  have h1 := clamp_mem (low := 1) (high := 4) (by decide) (byteAt args 2)
  have h2 := clamp_mem (low := 4) (high := 15) (by decide) (byteAt args 8)
  have h0 : ∀ high n, clamp 0 high n ≤ high := fun high n => (clamp_mem (Nat.zero_le high) n).2
  exact ⟨h1.1, h1.2, h0 _ _, h0 _ _, h0 _ _, h0 _ _, h2.1, h2.2⟩

theorem setupInRange_parts : Parts State.setupInRange where
  reset _ _ := (by decide : State.reset.setupInRange)
  setup {s} args _ _ _ := setupOf_inRange s args

theorem setupInRange_step {s t : State} (hs : s.setupInRange) (ht : step s = .next t) : t.setupInRange :=
  setupInRange_parts.step hs ht

/-- What a formed table keeps (R22). -/
abbrev PairsFormed (table : List (Nat × Nat)) : Prop :=
  table.length ≤ 12 ∧ (∀ p ∈ table, 1 ≤ p.1 ∧ p.1 ≤ 26 ∧ 1 ≤ p.2 ∧ p.2 ≤ 26 ∧ p.1 ≠ p.2) ∧
  table.Pairwise (fun p q => p ≠ q ∧ p ≠ (q.2, q.1))

theorem pairIn_iff (table : List (Nat × Nat)) (a b : Nat) : pairIn table a b = true ↔ (a, b) ∈ table ∨ (b, a) ∈ table := by
  simp [pairIn]

/-- An offered pair joins the table as clamped, or the table stays as it was (R22). -/
theorem offerPair_cases (acc : List (Nat × Nat) × Bool) (p : Nat × Nat) :
    ((clamp 1 26 p.1 = clamp 1 26 p.2 ∨ pairIn acc.1 (clamp 1 26 p.1) (clamp 1 26 p.2) = true ∨ 12 ≤ acc.1.length) ∧
      offerPair acc p = (acc.1, true)) ∨
    (clamp 1 26 p.1 ≠ clamp 1 26 p.2 ∧ pairIn acc.1 (clamp 1 26 p.1) (clamp 1 26 p.2) = false ∧ acc.1.length < 12 ∧
      offerPair acc p = (acc.1 ++ [(clamp 1 26 p.1, clamp 1 26 p.2)],
        acc.2 || clamped 1 26 p.1 || clamped 1 26 p.2)) := by
  unfold offerPair
  dsimp only
  split
  · exact .inl ⟨‹_›, rfl⟩
  · rename_i hjoins
    simp only [not_or, Bool.not_eq_true, Nat.not_le] at hjoins
    exact .inr ⟨hjoins.1, hjoins.2.1, hjoins.2.2, rfl⟩

theorem offerPair_formed {acc : List (Nat × Nat) × Bool} (p : Nat × Nat) (h : PairsFormed acc.1) :
    PairsFormed (offerPair acc p).1 := by
  obtain ⟨-, heq⟩ | ⟨hdiffer, hnew, hroom, heq⟩ := offerPair_cases acc p <;> rw [heq]
  · exact h
  · obtain ⟨hlength, hletters, hpairs⟩ := h
    have h1 := clamp_mem (low := 1) (high := 26) (by decide) p.1
    have h2 := clamp_mem (low := 1) (high := 26) (by decide) p.2
    refine ⟨by simpa using hroom, fun q hq => ?_, ?_⟩
    · obtain hq | hq := List.mem_append.mp hq
      · exact hletters q hq
      · rw [List.mem_singleton.mp hq]
        exact ⟨h1.1, h1.2, h2.1, h2.2, hdiffer⟩
    · refine List.pairwise_append.mpr ⟨hpairs, List.pairwise_singleton _ _, fun q hq r hr => ?_⟩
      rw [← Bool.not_eq_true, pairIn_iff] at hnew
      rw [List.mem_singleton.mp hr]
      exact ⟨fun he => hnew (.inl (he ▸ hq)), fun he => hnew (.inr (he ▸ hq))⟩

theorem formPairs_formed (offered : List (Nat × Nat)) : PairsFormed (formPairs offered).1 := by
  have hfold : ∀ (l : List (Nat × Nat)) acc, PairsFormed acc.1 → PairsFormed (l.foldl offerPair acc).1 := by
    intro l
    induction l with
    | nil => exact fun _ h => h
    | cons p l ih => exact fun acc h => ih _ (offerPair_formed p h)
  exact hfold offered ([], false) ⟨Nat.zero_le _, by simp, List.Pairwise.nil⟩

theorem pairsFormed_parts : Parts State.pairsFormed where
  reset _ _ := (by decide : State.reset.pairsFormed)
  setup _ offered _ _ := formPairs_formed offered

theorem pairsFormed_step {s t : State} (hs : s.pairsFormed) (ht : step s = .next t) : t.pairsFormed :=
  pairsFormed_parts.step hs ht

/-! ## Windows and progress entries (R11, R13, R16) -/

theorem windowsInRange_parts : Parts State.windowsInRange where
  reset _ _ := (by decide : State.reset.windowsInRange)
  excluded i low high hs := by
    refine ⟨List.length_set.trans hs.1, fun w hw => ?_⟩
    obtain hw | rfl := List.mem_or_eq_of_mem_set hw
    · exact hs.2 w hw
    · exact ⟨(clamp_mem (Nat.zero_le _) _).2, (clamp_mem (Nat.zero_le _) _).2⟩

theorem windowsInRange_step {s t : State} (hs : s.windowsInRange) (ht : step s = .next t) : t.windowsInRange :=
  windowsInRange_parts.step hs ht

theorem boxAfter_le (g : Grade) {box : Nat} (h : box ≤ 4) : boxAfter g box ≤ 4 := by
  cases g <;> simp [boxAfter, h]

theorem State.restedEntry_inRange (s : State) (p w : Nat) {e : ProgressEntry} (h : e.box ≤ 4 ∧ e.rest ≤ 255) :
    (s.restedEntry p w e).box ≤ 4 ∧ (s.restedEntry p w e).rest ≤ 255 := by
  rw [State.restedEntry_eq]
  refine ⟨h.1, ?_⟩
  dsimp only
  (repeat' split) <;> omega

/-- A load's end leaves the Progress Table as it was, or clears it (R10). -/
theorem State.loadEnded_progress {s u : State} (h : u.progressInRange) (o : LoadOutcome) (i : BitVec 16)
    (hu : (u.loadEnded o i).progress = (s.loadEnded o i).progress) : (s.loadEnded o i).progressInRange := by
  unfold State.progressInRange
  rw [← hu]
  unfold State.loadEnded
  dsimp only
  split
  · exact ⟨List.length_replicate, fun e he => by simp [List.eq_of_mem_replicate he]⟩
  · exact h

theorem progressInRange_parts : Parts State.progressInRange where
  reset _ _ := (by decide : State.reset.progressInRange)
  loadEnds _ _ _ _ _ _ hs := State.loadEnded_progress hs _ _ rfl
  bodyEnds _ _ _ _ _ _ _ _ hs := State.loadEnded_progress hs _ _ rfl
  boxed g he hs := by
    refine ⟨List.length_set.trans hs.1, fun x hx => ?_⟩
    obtain hx | rfl := List.mem_or_eq_of_mem_set hx
    · exact hs.2 x hx
    · have he := hs.2 _ (List.mem_of_getElem? he)
      exact ⟨boxAfter_le g he.1, he.2⟩
  chose {s} p hs := by
    refine ⟨(s.chose_progress_length p).trans hs.1, fun x hx => ?_⟩
    obtain ⟨i, hi, rfl⟩ := List.mem_mapIdx.mp hx
    exact s.restedEntry_inRange p i (hs.2 _ (List.getElem_mem hi))

theorem progressInRange_step {s t : State} (hs : s.progressInRange) (ht : step s = .next t) : t.progressInRange :=
  progressInRange_parts.step hs ht

/-- Settles O56: each range is one that every change keeps. -/
theorem rangesKeptByEveryStep : Obligations.RangesKeptByEveryStep := fun _ _ ht =>
  ⟨fun hs => countsInRange_step hs ht, fun hs => outputInRange_step hs ht, fun hs => setupInRange_step hs ht,
    fun hs => pairsFormed_step hs ht, fun hs => windowsInRange_step hs ht, fun hs => progressInRange_step hs ht⟩

end Sys2Proof.Machine
end

section
/-! What happens to one voice, said once (chapter 6): a property of voices that survives each of these survives every step. -/

namespace Sys2Proof.Machine

/-- The changes of one voice; m is the number of the next mark, and the marks of entries that join lie below it. -/
structure VoiceKept (V : Nat → Voice → Prop) : Prop where
  mono : ∀ {m n x}, m ≤ n → V m x → V n x
  quiet : ∀ m, V m Voice.quiet
  touched : ∀ {m x c c'} b r, x.current = some c → c'.entry = c.entry → V m x →
    V m { x with current := some c', buffer := b, rendering := r }
  starts : ∀ {m x} c, x.current = none → (∀ n ∈ c.entry.markNo, n < m) → V m x →
    V m { x with current := some c, buffer := [], rendering := .silence }
  joins : ∀ {m x c} e, x.current = some c → x.queue.length < 6 → (∀ n ∈ e.markNo, n < m) → V m x →
    V m { x with queue := x.queue ++ [e] }
  displaces : ∀ {m x c p d} e, x.current = some c → x.queue.length ≥ 6 → youngestBelow p x.queue = some d →
    (∀ n ∈ e.markNo, n < m) → V m x → V m { x with queue := withoutYoungestBelow p x.queue ++ [e] }
  silences : ∀ {m x c}, x.current = some c → queueHead x.queue = none → x.stack = [] → V m x →
    V m { x with current := none, buffer := [], rendering := .silence }
  nexts : ∀ {m x c c'}, x.current = some c → queueHead x.queue = some c'.entry →
    (∀ d, x.stack.head? = some d → d.entry.priority < c'.entry.priority) → V m x →
    V m { x with queue := queueRest x.queue, current := some c', buffer := [], rendering := .silence }
  resumes : ∀ {m x c c' d rest}, x.current = some c → x.stack = d :: rest → c'.entry = d.entry → V m x →
    V m { x with stack := rest, current := some c', buffer := [], rendering := .silence }
  preempts : ∀ {m x c c'}, x.current = some c → queueHead x.queue = some c'.entry →
    c.entry.priority < c'.entry.priority → V m x →
    V m { x with queue := queueRest x.queue, stack := (c :: x.stack).take 2, current := some c', buffer := [],
                 rendering := .silence }

/-- Both voices have a property. -/
def VoicesHold (V : Nat → Voice → Prop) (s : State) : Prop := ∀ v, V s.round.marks (s.voice v)

/-- Voice v is x, and the other voice has a property; m is the number of the next mark. -/
structure OtherHolds (V : Nat → Voice → Prop) (v : VoiceId) (x : Voice) (m : Nat) (s : State) : Prop where
  marks : s.round.marks = m
  voice : s.voice v = x
  other : ∀ w, w ≠ v → V m (s.voice w)

section
variable {V : Nat → Voice → Prop} {s : State} {v : VoiceId} {x y : Voice} {m : Nat}

theorem OtherHolds.of_voicesHold (h : VoicesHold V s) (v : VoiceId) : OtherHolds V v (s.voice v) s.round.marks s :=
  ⟨rfl, rfl, fun w _ => h w⟩

theorem OtherHolds.voicesHold (h : OtherHolds V v x m s) (hx : V m x) : VoicesHold V s := by
  intro w
  rw [h.marks]
  by_cases hw : w = v
  · rw [hw, h.voice]
    exact hx
  · exact h.other w hw

theorem OtherHolds.setVoice (h : OtherHolds V v x m s) (y : Voice) : OtherHolds V v y m (s.setVoice v y) where
  marks := by simp [h.marks]
  voice := s.setVoice_voice v y
  other w hw := by rw [s.setVoice_other hw]; exact h.other w hw

/-- What an utterance's end reaches leaves the voices as they are. -/
theorem otherHolds_parts : SpeechParts (OtherHolds V v x m) where
  flags _ h := ⟨h.marks, h.voice, h.other⟩
  report _ _ h := ⟨h.marks, h.voice, h.other⟩
  voiceAsks _ _ h := ⟨h.marks, h.voice, h.other⟩
  voiceWithdraws _ h := ⟨h.marks, h.voice, h.other⟩
  store _ h := ⟨h.marks, h.voice, h.other⟩
  underrun h := ⟨h.marks, h.voice, h.other⟩
  promptEndsSolo _ h := ⟨h.marks, h.voice, h.other⟩
  promptEndsCircle _ h := ⟨h.marks, h.voice, h.other⟩
  reviewEnds _ h := ⟨h.marks, h.voice, h.other⟩

end

theorem VoicesHold.setVoice {V : Nat → Voice → Prop} {s : State} {v : VoiceId} {x : Voice} (hs : VoicesHold V s)
    (hx : V s.round.marks x) : VoicesHold V (s.setVoice v x) :=
  ((OtherHolds.of_voicesHold hs v).setVoice x).voicesHold hx

namespace VoiceKept

variable {V : Nat → Voice → Prop} (h : VoiceKept V) {s : State}
include h

theorem advance (v : VoiceId) (hs : VoicesHold V s) : VoicesHold V (s.advance v) := by
  obtain heq | ⟨c, c', b, hc, hentry, -, heq⟩ := s.advance_cases v
  · rwa [heq]
  · have hset := hs.setVoice (v := v) (h.touched b (s.voice v).rendering hc hentry (hs v))
    obtain heq | ⟨k, -, heq⟩ := heq <;> rw [heq] <;> exact hset

/-- A context begins on a voice when the voice that it gives has the property. -/
theorem beginWalk {v : VoiceId} {x : Voice} {m : Nat} {c : Context} (hs : OtherHolds V v x m s)
    (hx : V m { x with current := some c, buffer := [], rendering := .silence }) : VoicesHold V (s.begin v c) := by
  refine h.advance v (OtherHolds.voicesHold (hs.setVoice _) ?_)
  rwa [hs.voice]

theorem endCurrent (v : VoiceId) (o : SpokenOutcome) (hs : VoicesHold V s) : VoicesHold V (s.endCurrent v o) := by
  have hv := hs v
  unfold State.endCurrent
  split
  · exact hs
  · rename_i c hc
    have hended := otherHolds_parts.endEntry false c.entry o (((OtherHolds.of_voicesHold hs v).setVoice
      { s.voice v with current := none, buffer := [], rendering := .silence }))
    generalize State.endEntry _ false c.entry o = u at hended ⊢
    have hvoice := hended.voice
    obtain ⟨hhead, hstack, heq⟩ | ⟨e, hhead, hbelow, heq⟩ | ⟨d, rest, hstack, -, heq⟩ := u.chooseNext_cases v <;> rw [heq]
    · rw [hvoice] at hhead hstack ⊢
      exact (hended.setVoice _).voicesHold (h.silences (x := s.voice v) hc hhead hstack hv)
    · rw [hvoice] at hhead hbelow ⊢
      exact h.beginWalk (hended.setVoice _) (h.nexts (x := s.voice v) (c' := State.startContext _ v e) hc hhead hbelow hv)
    · rw [hvoice] at hstack ⊢
      exact h.beginWalk (hended.setVoice _) (h.resumes (x := s.voice v) (c' := d.resumed) hc hstack rfl hv)

theorem goOn (v : VoiceId) (hs : VoicesHold V s) : VoicesHold V (s.goOn v) := by
  have hadvanced := h.advance v hs
  unfold State.goOn
  dsimp only
  split
  · split
    · exact h.endCurrent v _ hadvanced
    · exact hadvanced
  · exact hadvanced

theorem offer (v : VoiceId) (e : Entry) (he : ∀ n ∈ e.markNo, n < s.round.marks) (hs : VoicesHold V s) :
    VoicesHold V (s.offer v e).1 := by
  have hother := OtherHolds.of_voicesHold hs v
  obtain ⟨hc, heq⟩ | ⟨c, hc, ⟨hroom, heq⟩ | ⟨hfull, d, hd, heq⟩ | ⟨-, -, heq⟩⟩ := s.offer_cases v e <;> rw [heq]
  · exact h.beginWalk hother (h.starts (s.startContext v e) hc he (hs v))
  · exact hs.setVoice (h.joins e hc hroom he (hs v))
  · exact (otherHolds_parts.endEntry _ _ _ (hother.setVoice _)).voicesHold (h.displaces e hc hfull hd he (hs v))
  · exact (otherHolds_parts.endEntry _ _ _ hother).voicesHold (hs v)

theorem stopVoice (silent : Bool) (v : VoiceId) (hs : VoicesHold V s) : VoicesHold V (s.stopVoice silent v) :=
  (otherHolds_parts.endAll silent id _ _ (otherHolds_parts.voiceWithdraws v
    ((OtherHolds.of_voicesHold hs v).setVoice Voice.quiet))).voicesHold (h.quiet _)

theorem renderFrame (v : VoiceId) (hs : VoicesHold V s) : VoicesHold V (s.renderFrame v) := by
  unfold State.renderFrame
  dsimp only
  split
  · exact hs
  · rename_i c f rest hc _
    exact h.advance v (hs.setVoice
      (h.touched (c' := { c with rendered := true, restart := f.point }) rest f.sound hc rfl (hs v)))
  · rename_i c hc _
    have hsilent := h.touched (c' := c) (s.voice v).buffer .silence hc rfl (hs v)
    rw [← hc] at hsilent
    have hset := hs.setVoice (v := v) hsilent
    split
    · exact hset
    · exact hset

theorem preempt {v : VoiceId} {c : Context} {e : Entry} (hc : (s.voice v).current = some c)
    (hhead : queueHead (s.voice v).queue = some e) (hbelow : c.entry.priority < e.priority) (hs : VoicesHold V s) :
    VoicesHold V (s.preempt v c e) :=
  h.beginWalk (otherHolds_parts.endAll false (fun d : Context => d.entry) _ _ (otherHolds_parts.voiceWithdraws v
    ((OtherHolds.of_voicesHold hs v).setVoice _))) (h.preempts (c' := State.startContext _ v e) hc hhead hbelow (hs v))

theorem boundary (v : VoiceId) (hs : VoicesHold V s) : VoicesHold V (s.boundary v) := by
  obtain ⟨-, heq⟩ | ⟨c, o, -, -, -, heq⟩ | ⟨c, e, hc, hhead, hbelow, heq⟩ | ⟨c, -, heq⟩ := s.boundary_cases v <;> rw [heq]
  · exact hs
  · exact h.renderFrame v (h.endCurrent v o hs)
  · exact h.renderFrame v (h.preempt hc hhead hbelow hs)
  · exact h.renderFrame v hs

theorem speech : KeptBySpeech (VoicesHold V) where
  offer v e he hs := h.offer v e he hs
  stopVoice := h.stopVoice
  goOn := h.goOn
  boundary := h.boundary
  taken {_ _ _ _} b hc he hs := hs.setVoice (h.touched b _ hc he (hs _))

/-- A property that survives the changes of one voice holds of both voices after every step. -/
theorem step (hs : VoicesHold V s) {t : State} (ht : Machine.step s = .next t) : VoicesHold V t := by
  have hparts : Parts (VoicesHold V) :=
    { reset := fun _ _ v => by cases v <;> exact h.quiet _
      marked := fun hs v => h.mono (Nat.le_succ _) (hs v) }
  exact Kept.step_kept { toParts := hparts, toKeptBySpeech := h.speech } (fun _ hu => hu) id id id hs ht

end VoiceKept

end Sys2Proof.Machine
end

section
/-! The capacities of queues, stacks, keys and Roster (R50, R54, R103, R115, R140, R148, R150, R183). -/

namespace Sys2Proof.Machine

/-! ## Speech queues and resume stacks -/

theorem queueRest_sublist (q : List Entry) : (queueRest q).Sublist q := by
  unfold queueRest
  split
  · exact List.Sublist.refl q
  · exact List.eraseP_sublist

theorem youngestBelow_some {p : Nat} {q : List Entry} {d : Entry} (h : youngestBelow p q = some d) :
    d ∈ q ∧ d.priority < p := by
  refine ⟨List.mem_reverse.mp (List.mem_of_find?_eq_some h), ?_⟩
  simpa using List.find?_some h

theorem withoutYoungestBelow_sublist (p : Nat) (q : List Entry) : (withoutYoungestBelow p q).Sublist q := by
  have h : (q.reverse.eraseP (fun e => decide (e.priority < p))).Sublist q.reverse := List.eraseP_sublist
  simpa [withoutYoungestBelow] using h.reverse

theorem withoutYoungestBelow_length {p : Nat} {q : List Entry} {d : Entry} (h : youngestBelow p q = some d) :
    (withoutYoungestBelow p q).length = q.length - 1 := by
  obtain ⟨hmem, hlt⟩ := youngestBelow_some h
  rw [withoutYoungestBelow, List.length_reverse, List.length_eraseP_of_mem (List.mem_reverse.mpr hmem) (by simpa using hlt),
    List.length_reverse]

theorem voiceCapacity : VoiceKept (fun _ x => x.queue.length ≤ 6 ∧ x.stack.length ≤ 2) where
  mono _ h := h
  quiet _ := ⟨Nat.zero_le 6, Nat.zero_le 2⟩
  touched _ _ _ _ h := h
  starts _ _ _ h := h
  joins e _ hroom _ h := ⟨by simpa using hroom, h.2⟩
  displaces e _ hfull hd _ h := by
    refine ⟨?_, h.2⟩
    rw [List.length_append, withoutYoungestBelow_length hd, List.length_singleton]
    omega
  silences _ _ _ h := h
  nexts _ _ _ h := ⟨(queueRest_sublist _).length_le.trans h.1, h.2⟩
  resumes _ hstack _ h := by
    rw [hstack] at h
    exact ⟨h.1, Nat.le_of_succ_le h.2⟩
  preempts _ _ _ h := ⟨(queueRest_sublist _).length_le.trans h.1, List.length_take_le _ _⟩

/-! ## Key Queue, Report Queue and keys -/

theorem keyQueue_parts : Parts (fun s => s.scanner.queue.length ≤ 8) where
  reset _ _ := Nat.zero_le 8
  keyQueued hroom _ _ := by simpa using hroom
  keysLeave hq h := hq.length_le.trans h

theorem reports_parts : Parts (fun s => s.reports.length ≤ 16) where
  reset _ _ := Nat.zero_le 16
  report r hroom _ := by simpa using hroom
  reportLeaves {s} h := by
    show s.reports.tail.length ≤ 16
    rw [List.length_tail]
    omega

theorem withinCapacity_step {s t : State} (hs : s.withinCapacity) (ht : step s = .next t) : t.withinCapacity := by
  obtain ⟨hkeys, hreports, hqueueA, hstackA, hqueueB, hstackB⟩ := hs
  have hvoices := voiceCapacity.step (s := s) (fun v => by cases v <;> constructor <;> assumption) ht
  obtain ⟨hqueueA, hstackA⟩ := hvoices .A
  obtain ⟨hqueueB, hstackB⟩ := hvoices .B
  exact ⟨keyQueue_parts.step hkeys ht, reports_parts.step hreports ht, hqueueA, hstackA, hqueueB, hstackB⟩

theorem scannerFormed_parts : Parts State.scannerFormed where
  reset _ _ := (by decide : State.reset.scannerFormed)
  keys ks hlength hrun hs := by
    obtain ⟨h64, hruns, hqueue⟩ := hs
    exact ⟨hlength.elim (·.trans h64) id, fun k hk => (hrun k hk).elim id (hruns k), hqueue⟩
  keyQueued _ hcode hs := by
    obtain ⟨h64, hruns, hqueue⟩ := hs
    refine ⟨h64, hruns, fun c hc => ?_⟩
    obtain hc | hc := List.mem_append.mp hc
    · exact hqueue c hc
    · rw [List.mem_singleton.mp hc, ← h64]
      exact hcode
  keysLeave hq hs := by
    obtain ⟨h64, hruns, hqueue⟩ := hs
    exact ⟨h64, hruns, fun c hc => hqueue c (hq.subset hc)⟩

/-! ## Transmit queue (R140) -/

theorem Link.countKind_eq (l : Link) (k : TxKind) : l.countKind k = (l.queue.map (·.kind)).count k := by
  rw [Link.countKind, List.count_eq_countP, List.countP_map, List.countP_eq_length_filter]
  rfl

/-- The transmit queue holds no more of each kind than its limit. -/
abbrev State.kindsLimited (s : State) : Prop := ∀ k, s.link.countKind k ≤ k.limit

theorem State.kindsLimited_iff (s : State) : s.kindsLimited ↔ s.transmitLimited := by
  constructor
  · exact fun h => ⟨h .letter, h .close, h .deal, h .beat⟩
  · rintro ⟨hletter, hclose, hdeal, hbeat⟩ k
    cases k <;> assumption

theorem kindsLimited_parts : Parts State.kindsLimited where
  reset _ _ k := Nat.zero_le _
  frames f hq hs k := by
    refine le_trans ?_ (hs k)
    rw [Link.countKind_eq, Link.countKind_eq]
    exact hq.count_le k
  queued {s j} body hroom hs k := by
    have hk := hs k
    rw [Link.countKind_eq] at hroom hk ⊢
    simp only [State.setLink_link, List.map_append, List.count_append, List.map_cons, List.map_nil, List.count_singleton]
    split
    · rename_i hjk
      obtain rfl : j = k := by simpa using hjk
      exact hroom
    · exact hk
  beatQueued {s} body hs k := by
    have hk := hs k
    rw [Link.countKind] at hk ⊢
    cases k with
    | beat =>
      have hnone : s.link.queue.filter (fun e => e.kind != .beat && e.kind == .beat) = [] := by
        rw [List.filter_eq_nil_iff]
        intro e _
        cases e.kind <;> simp
      simp [State.queueBeat, List.filter_filter, hnone, Bool.and_comm, TxKind.limit]
    | deal | letter | close =>
      refine le_trans (le_of_eq_of_le ?_ (List.length_filter_le (fun e : TxEntry => e.kind != .beat) _)) hk
      simp [State.queueBeat, List.filter_filter, Bool.and_comm]

theorem transmitLimited_step {s t : State} (hs : s.transmitLimited) (ht : step s = .next t) : t.transmitLimited :=
  t.kindsLimited_iff.mp (kindsLimited_parts.step (s.kindsLimited_iff.mpr hs) ht)

/-! ## Roster (R148 to R151) -/

/-- The ranges of one Roster entry (R148, R150). -/
abbrev RosterEntry.inRange (x : RosterEntry) : Prop := x.age ≤ 2 ∧ x.placed ≤ 255 ∧ x.onLetters ≤ 255 ∧ x.dealt ≤ 255

theorem mem_of_rosterAt {r : List (Option RosterEntry)} {n : Nat} {e : RosterEntry} (h : rosterAt r n = some e) :
    some e ∈ r := by
  unfold rosterAt at h
  rw [Option.join_eq_some_iff] at h
  exact List.mem_of_getElem? h

/-- One entry may be replaced by one in range. -/
theorem State.rosterFormed_set {s : State} (hs : s.rosterFormed) (n : Nat) {x : RosterEntry} (hx : x.inRange) :
    (s.setRoster (s.roster.set n (some x))).rosterFormed := by
  refine ⟨List.length_set.trans hs.1, fun e he y hy => ?_⟩
  obtain he | rfl := List.mem_or_eq_of_mem_set he
  · exact hs.2 e he y hy
  · exact Option.some.inj hy ▸ hx

theorem State.rosterFormed_at {s : State} (hs : s.rosterFormed) {n : Nat} {e : RosterEntry}
    (he : rosterAt s.roster n = some e) : e.inRange := hs.2 _ (mem_of_rosterAt he) e rfl

theorem rosterFormed_parts : Parts State.rosterFormed where
  reset _ _ := by simp [State.rosterFormed, State.resetWith]
  peerHeard _ _ he hs :=
    State.rosterFormed_set hs _ ⟨Nat.zero_le _, (State.rosterFormed_at hs he).2⟩
  peerJoins _ _ hs :=
    State.rosterFormed_set hs _ ⟨Nat.zero_le _, Nat.zero_le _, Nat.zero_le _, Nat.zero_le _⟩
  peerNoted {_ _ e} i _ he hs :=
    State.rosterFormed_set hs _ (x := { e with identity := i }) (State.rosterFormed_at (e := e) hs he)
  peerDeals _ he hs := by
    obtain ⟨hage, hplaced, hon, -⟩ := State.rosterFormed_at hs he
    exact State.rosterFormed_set hs _ ⟨hage, hplaced, hon, raise_le⟩
  peerTallied {_ _ e} on _ he hs := by
    obtain ⟨hage, -, hon, hdealt⟩ := State.rosterFormed_at hs he
    refine State.rosterFormed_set hs _ ⟨hage, raise_le, ?_, hdealt⟩
    show (if on then raise 255 e.onLetters else e.onLetters) ≤ 255
    split
    · exact raise_le
    · exact hon
  agedLeave hs := by
    refine ⟨(List.length_map _).trans hs.1, fun e he x hx => ?_⟩
    obtain ⟨o, ho, rfl⟩ := List.mem_map.mp he
    obtain ⟨rfl, -⟩ := Option.filter_eq_some_iff.mp hx
    exact hs.2 _ ho x rfl
  ages hyoung hs := by
    refine ⟨(List.length_map _).trans hs.1, fun e he x hx => ?_⟩
    obtain ⟨o, ho, rfl⟩ := List.mem_map.mp he
    obtain ⟨y, rfl, rfl⟩ := Option.map_eq_some_iff.mp hx
    obtain ⟨-, htallies⟩ := hs.2 _ ho y rfl
    exact ⟨hyoung _ ho y rfl, htallies⟩
  settles _ _ := by simp [State.rosterFormed]

theorem rosterAt_set_ne {r : List (Option RosterEntry)} {n k : Nat} (h : n ≠ k) (x : Option RosterEntry) :
    rosterAt (r.set n x) k = rosterAt r k := by
  rw [rosterAt, List.getElem?_set_ne h, rosterAt]

/-- A roster whose entries are changed in place has none where it had none. -/
theorem rosterAt_map_none {r : List (Option RosterEntry)} {k : Nat} {f : Option RosterEntry → Option RosterEntry}
    (hf : f none = none) (h : rosterAt r k = none) : rosterAt (r.map f) k = none := by
  rw [rosterAt, Option.join_eq_none_iff] at h ⊢
  rw [List.getElem?_map]
  obtain h | h := h <;> simp [h, hf]

theorem rosterAt_replicate_none (n k : Nat) : rosterAt (List.replicate n none) k = none := by
  rw [rosterAt, List.getElem?_replicate]
  split <;> rfl

theorem noOwnEntry_parts : Parts State.noOwnEntry where
  reset l _ := rosterAt_replicate_none 8 _
  peerHeard _ hown _ hs := (rosterAt_set_ne hown _).trans hs
  peerJoins _ hown hs := (rosterAt_set_ne hown _).trans hs
  peerNoted _ hown _ hs := (rosterAt_set_ne hown _).trans hs
  peerDeals hown _ hs := (rosterAt_set_ne hown _).trans hs
  peerTallied _ hown _ hs := (rosterAt_set_ne hown _).trans hs
  agedLeave hs := rosterAt_map_none rfl hs
  ages _ hs := rosterAt_map_none rfl hs
  settles _ _ := rosterAt_replicate_none 8 _

/-- Settles O57: each capacity is one that every change keeps. -/
theorem capacitiesKeptByEveryStep : Obligations.CapacitiesKeptByEveryStep := fun _ _ ht =>
  ⟨fun hs => withinCapacity_step hs ht, fun hs => scannerFormed_parts.step hs ht, fun hs => transmitLimited_step hs ht,
    fun hs => rosterFormed_parts.step hs ht, fun hs => noOwnEntry_parts.step hs ht⟩

end Sys2Proof.Machine
end

section
/-! QUIET voices, resume stacks, marks and the Memory Port (R67, R98, R103, R115). -/

namespace Sys2Proof.Machine

/-! ## The head of a speech queue (R103) -/

theorem mem_speechOrder {e : Entry} {q : List Entry} : e ∈ speechOrder q ↔ e ∈ q := by
  simp only [speechOrder, List.mem_append, List.mem_filter, decide_eq_true_eq, beq_iff_eq]
  have hclass : 3 ≤ e.priority ∨ e.priority = 2 ∨ e.priority = 1 ∨ e.priority = 0 := by omega
  tauto

theorem queueHead_mem {q : List Entry} {e : Entry} (h : queueHead q = some e) : e ∈ q :=
  mem_speechOrder.mp (List.mem_of_head? h)

theorem queueHead_eq_none {q : List Entry} : queueHead q = none ↔ q = [] := by
  rw [queueHead, List.head?_eq_none_iff, List.eq_nil_iff_forall_not_mem, List.eq_nil_iff_forall_not_mem]
  simp [mem_speechOrder]

/-! ## QUIET voices and resume stacks (R103, R115) -/

/-- In a list in falling order, no element is above one that the head is not above. -/
theorem le_of_head_le {l : List Nat} (hl : l.Pairwise (fun p q => q ≤ p)) {n : Nat} (hn : ∀ p, l.head? = some p → p ≤ n) :
    ∀ p ∈ l, p ≤ n := by
  cases l with
  | nil => simp
  | cons a l =>
    obtain ⟨ha, -⟩ := List.pairwise_cons.mp hl
    intro p hp
    obtain rfl | hp := List.mem_cons.mp hp
    · exact hn p rfl
    · exact (ha p hp).trans (hn a rfl)

theorem voiceOrdered : VoiceKept (fun _ x => x.quietIsEmpty ∧ x.stackOrdered) where
  mono _ h := h
  quiet _ := by decide
  touched b r hc hentry h := by
    refine ⟨nofun, ?_⟩
    have hordered := h.2
    simp only [Voice.stackOrdered, hc, Option.toList_some, List.cons_append, List.map_cons] at hordered ⊢
    rwa [hentry]
  starts c hc _ h := by
    obtain ⟨-, hstack, -⟩ := h.1 hc
    refine ⟨nofun, ?_⟩
    simp [Voice.stackOrdered, hstack]
  joins e hc _ _ h := by
    refine ⟨fun hnone => ?_, h.2⟩
    rw [hc] at hnone
    cases hnone
  displaces e hc _ _ _ h := by
    refine ⟨fun hnone => ?_, h.2⟩
    rw [hc] at hnone
    cases hnone
  silences hc hhead hstack h := by
    refine ⟨fun _ => ⟨queueHead_eq_none.mp hhead, hstack, rfl, rfl⟩, ?_⟩
    simp [Voice.stackOrdered, hstack]
  nexts {_ x c c'} hc hhead hbelow h := by
    have hordered := h.2
    rw [Voice.stackOrdered, hc, Option.toList_some, List.singleton_append, List.map_cons, List.pairwise_cons] at hordered
    refine ⟨nofun, ?_⟩
    show (([c'] ++ x.stack).map (fun d => d.entry.priority)).Pairwise _
    rw [List.singleton_append, List.map_cons, List.pairwise_cons]
    refine ⟨le_of_head_le hordered.2 (fun p hp => ?_), hordered.2⟩
    rw [List.head?_map, Option.map_eq_some_iff] at hp
    obtain ⟨d, hd, rfl⟩ := hp
    exact (hbelow d hd).le
  resumes {_ x c c' d rest} hc hstack hentry h := by
    have hordered := h.2
    rw [Voice.stackOrdered, hc, hstack, Option.toList_some, List.singleton_append, List.map_cons, List.pairwise_cons] at hordered
    refine ⟨nofun, ?_⟩
    show (([c'] ++ rest).map (fun d => d.entry.priority)).Pairwise _
    rw [List.singleton_append, List.map_cons, hentry, ← List.map_cons (f := fun d : Context => d.entry.priority)]
    exact hordered.2
  preempts {_ x c c'} hc hhead hbelow h := by
    have hordered := h.2
    rw [Voice.stackOrdered, hc, Option.toList_some, List.singleton_append] at hordered
    refine ⟨nofun, ?_⟩
    show (([c'] ++ (c :: x.stack).take 2).map (fun d => d.entry.priority)).Pairwise _
    rw [List.singleton_append, List.map_cons, List.pairwise_cons]
    have htake : ((c :: x.stack).take 2).map (fun d : Context => d.entry.priority) |>.Sublist
        ((c :: x.stack).map (fun d => d.entry.priority)) := (List.take_sublist 2 _).map _
    refine ⟨fun p hp => ?_, hordered.sublist htake⟩
    refine le_of_head_le hordered (fun p hp => ?_) p (htake.subset hp)
    obtain rfl : c.entry.priority = p := by simpa using hp
    exact hbelow.le

/-! ## Marks (R67, log 15) -/

/-- An entry's mark, if any, lies below m. -/
def Entry.markBelow (m : Nat) (e : Entry) : Prop := ∀ n ∈ e.markNo, n < m

/-- The marks of all a voice's entries lie below m. -/
structure Voice.MarksBelow (m : Nat) (x : Voice) : Prop where
  current : ∀ c, x.current = some c → c.entry.markBelow m
  stack : ∀ c ∈ x.stack, c.entry.markBelow m
  queue : ∀ e ∈ x.queue, e.markBelow m

theorem Voice.marksBelow_iff (m : Nat) (x : Voice) : x.MarksBelow m ↔ ∀ n ∈ x.marks, n < m := by
  simp only [Voice.marks, List.mem_filterMap, List.mem_append, List.mem_map, Option.mem_toList]
  constructor
  · rintro ⟨hcurrent, hstack, hqueue⟩ n ⟨e, ⟨c, hc | hc, rfl⟩ | he, hn⟩
    · exact hcurrent c hc n hn
    · exact hstack c hc n hn
    · exact hqueue e he n hn
  · exact fun h =>
      ⟨fun c hc n hn => h n ⟨_, .inl ⟨c, .inl hc, rfl⟩, hn⟩, fun c hc n hn => h n ⟨_, .inl ⟨c, .inr hc, rfl⟩, hn⟩,
        fun e he n hn => h n ⟨e, .inr he, hn⟩⟩

theorem voiceMarked : VoiceKept Voice.MarksBelow where
  mono hmn h :=
    ⟨fun c hc n hn => (h.current c hc n hn).trans_le hmn, fun c hc n hn => (h.stack c hc n hn).trans_le hmn,
      fun e he n hn => (h.queue e he n hn).trans_le hmn⟩
  quiet _ := ⟨by simp [Voice.quiet], by simp [Voice.quiet], by simp [Voice.quiet]⟩
  touched _ _ hc hentry h := by
    refine ⟨?_, h.stack, h.queue⟩
    intro c' hc'
    rw [← Option.some.inj hc', hentry]
    exact h.current _ hc
  starts c _ hmark h := by
    refine ⟨?_, h.stack, h.queue⟩
    intro c' hc'
    exact Option.some.inj hc' ▸ hmark
  joins e _ _ hmark h := by
    refine ⟨h.current, h.stack, fun f hf => ?_⟩
    obtain hf | hf := List.mem_append.mp hf
    · exact h.queue f hf
    · exact List.mem_singleton.mp hf ▸ hmark
  displaces e _ _ _ hmark h := by
    refine ⟨h.current, h.stack, fun f hf => ?_⟩
    obtain hf | hf := List.mem_append.mp hf
    · exact h.queue f ((withoutYoungestBelow_sublist _ _).subset hf)
    · exact List.mem_singleton.mp hf ▸ hmark
  silences _ _ _ h := ⟨fun _ hc => (nomatch hc), h.stack, h.queue⟩
  nexts _ hhead _ h := by
    refine ⟨?_, h.stack, fun e he => h.queue e ((queueRest_sublist _).subset he)⟩
    intro c' hc'
    exact Option.some.inj hc' ▸ h.queue _ (queueHead_mem hhead)
  resumes _ hstack hentry h := by
    have hs := h.stack
    rw [hstack, List.forall_mem_cons] at hs
    refine ⟨?_, hs.2, h.queue⟩
    intro c' hc'
    rw [← Option.some.inj hc', hentry]
    exact hs.1
  preempts hc hhead _ h := by
    refine ⟨?_, fun d hd => ?_, fun e he => h.queue e ((queueRest_sublist _).subset he)⟩
    · intro c' hc'
      exact Option.some.inj hc' ▸ h.queue _ (queueHead_mem hhead)
    · obtain rfl | hd := List.mem_cons.mp (List.mem_of_mem_take hd)
      · exact h.current _ hc
      · exact h.stack d hd

/-- The mark that the round holds is numbered. -/
def State.markNumbered (s : State) : Prop := ∀ n ∈ s.round.marked, n < s.round.marks

theorem markNumbered_parts : Parts State.markNumbered where
  reset _ _ := nofun
  marked _ := by rintro n ⟨⟩; exact Nat.lt_succ_self _
  promptEndsSolo _ _ := nofun
  promptEndsCircle _ _ := nofun
  reviewEnds _ _ := nofun
  toIdle _ := nofun
  opensSolo _ _ _ _ := nofun
  opensCircle _ _ _ _ _ := nofun
  watches _ _ _ _ := nofun
  restarts _ _ := nofun

theorem State.marksNumbered_iff (s : State) : s.marksNumbered ↔ s.markNumbered ∧ VoicesHold Voice.MarksBelow s := by
  simp only [State.marksNumbered, State.markNumbered, VoicesHold, Voice.marksBelow_iff, List.mem_append, Option.mem_toList,
    or_imp, forall_and, and_assoc]
  refine and_congr_right fun _ => ⟨fun h v => ?_, fun h => ⟨h .A, h .B⟩⟩
  cases v
  · exact h.1
  · exact h.2

theorem marksNumbered_step {s t : State} (hs : s.marksNumbered) (ht : step s = .next t) : t.marksNumbered := by
  rw [State.marksNumbered_iff] at hs ⊢
  exact ⟨markNumbered_parts.step hs.1 ht, voiceMarked.step hs.2 ht⟩

/-! ## The Memory Port (R98) -/

theorem insertTransfer_perm (t : Transfer) (l : List Transfer) : (insertTransfer t l).Perm (t :: l) := by
  induction l with
  | nil => exact List.Perm.refl _
  | cons u l ih =>
    unfold insertTransfer
    split
    · exact List.Perm.refl _
    · exact (ih.cons u).trans (List.Perm.swap t u l)

/-- A request joins requests in grant order at a place that keeps the order. -/
theorem insertTransfer_ordered {t : Transfer} {l : List Transfer} (h : l.Pairwise (fun u v => u.order ≤ v.order)) :
    (insertTransfer t l).Pairwise (fun u v => u.order ≤ v.order) := by
  induction l with
  | nil => exact List.pairwise_singleton _ _
  | cons u l ih =>
    obtain ⟨hu, hl⟩ := List.pairwise_cons.mp h
    unfold insertTransfer
    split
    · rename_i hlt
      refine List.pairwise_cons.mpr ⟨fun v hv => ?_, h⟩
      obtain rfl | hv := List.mem_cons.mp hv
      · exact hlt.le
      · exact hlt.le.trans (hu v hv)
    · rename_i hle
      refine List.pairwise_cons.mpr ⟨fun v hv => ?_, ih hl⟩
      obtain rfl | hv := (mem_insertTransfer t v l).mp hv
      · exact Nat.le_of_not_lt hle
      · exact hu v hv

theorem State.hasTransfer_eq_false {s : State} {r : Requester} :
    s.hasTransfer r = false ↔ ∀ t ∈ s.port.all, t.requester ≠ r := by
  simp only [State.hasTransfer, Port.all, Bool.or_eq_false_iff, List.mem_append, or_imp, forall_and, Option.mem_toList]
  refine and_congr ?_ ?_
  · cases s.port.inFlight <;> simp
  · simp

/-- One request for each requester, and the waiting ones in grant order (R98). -/
def State.portOrdered (s : State) : Prop := s.oneRequestEach ∧ s.waitingInOrder

/-- A requester without a transfer may ask for one (R98). -/
theorem State.oneRequestEach_ask {s : State} {r : Requester} {k : TransferKind} (hfree : s.hasTransfer r = false)
    (hs : s.oneRequestEach) : (s.ask r k).oneRequestEach := by
  have hperm : (s.ask r k).port.all.Perm ({ requester := r, kind := k, discarded := false } :: s.port.all) :=
    ((insertTransfer_perm _ _).append_left _).trans List.perm_middle
  refine (hperm.pairwise_iff (fun hne => hne.symm)).mpr (List.pairwise_cons.mpr ⟨fun t ht => ?_, hs⟩)
  exact (State.hasTransfer_eq_false.mp hfree t ht).symm

theorem State.portOrdered_ask {s : State} {r : Requester} {k : TransferKind} (hfree : s.hasTransfer r = false)
    (hs : s.portOrdered) : (s.ask r k).portOrdered :=
  ⟨State.oneRequestEach_ask hfree hs.1, insertTransfer_ordered hs.2⟩

theorem State.oneRequestEach_withdraw {s : State} (r : Requester) (hs : s.oneRequestEach) :
    (s.withdraw r).oneRequestEach := by
  have hrequesters : ((s.withdraw r).port.all.map (·.requester)).Sublist (s.port.all.map (·.requester)) := by
    simp only [State.withdraw, State.setPort_port, Port.all, List.map_append]
    refine List.Sublist.append ?_ (List.filter_sublist.map _)
    cases s.port.inFlight with
    | none => exact List.Sublist.refl _
    | some t =>
      simp only [Option.map_some, Option.toList_some, List.map_cons, List.map_nil]
      split <;> exact List.Sublist.refl _
  have hpairs := List.pairwise_map.mpr hs
  exact List.pairwise_map.mp (hpairs.sublist hrequesters)

theorem State.portOrdered_withdraw {s : State} (r : Requester) (hs : s.portOrdered) : (s.withdraw r).portOrdered :=
  ⟨State.oneRequestEach_withdraw r hs.1, hs.2.sublist List.filter_sublist⟩

theorem State.oneRequestEach_freed {s : State} (hs : s.oneRequestEach) : s.transferEnds.oneRequestEach :=
  hs.sublist (List.sublist_append_right _ _)

theorem State.portOrdered_freed {s : State} (hs : s.portOrdered) : s.transferEnds.portOrdered :=
  ⟨State.oneRequestEach_freed hs.1, hs.2⟩

/-- Once a requester's transfer has ended, it has none at the port (R98, R99). -/
theorem State.hasTransfer_freed {s : State} {t : Transfer} (hs : s.oneRequestEach) (hport : s.port.inFlight = some t) :
    s.transferEnds.hasTransfer t.requester = false := by
  rw [State.hasTransfer_eq_false]
  rw [State.oneRequestEach, Port.all, hport, Option.toList_some, List.singleton_append, List.pairwise_cons] at hs
  exact fun u hu => (hs.1 u hu).symm

theorem State.portOrdered_granted {s : State} {t : Transfer} {rest : List Transfer} (hfree : s.port.inFlight = none)
    (hwaiting : s.port.waiting = t :: rest) (hs : s.portOrdered) :
    (s.setPort { inFlight := some t, waiting := rest }).portOrdered := by
  obtain ⟨hone, horder⟩ := hs
  rw [State.oneRequestEach, Port.all, hfree, hwaiting] at hone
  rw [State.waitingInOrder, hwaiting] at horder
  exact ⟨hone, (List.pairwise_cons.mp horder).2⟩

theorem portOrdered_parts : Parts State.portOrdered where
  reset _ _ := (by decide : State.reset.oneRequestEach ∧ State.reset.waitingInOrder)
  granted := State.portOrdered_granted
  voiceAsks hfree _ hs := State.portOrdered_ask hfree hs
  voiceWithdraws _ hs := State.portOrdered_withdraw _ hs
  freed _ hs := State.portOrdered_freed hs
  readerAsks {s t _} x hport hown _ hs :=
    State.portOrdered_ask (s := s.transferEnds.setStore x) (hown ▸ State.hasTransfer_freed hs.1 hport)
      (State.portOrdered_freed hs)
  loaderAsks _ hfree hs := State.portOrdered_ask hfree hs
  headerTaken _ _ _ _ _ _ _ hs := State.portOrdered_freed hs
  countTaken _ _ _ _ hs := State.portOrdered_freed hs
  loadEnds _ _ _ _ _ _ hs := State.portOrdered_freed hs
  bodyTaken _ _ _ _ _ _ _ _ hs := State.portOrdered_freed hs
  bodyEnds _ _ _ _ _ _ _ _ hs := State.portOrdered_freed hs
  cartridgeRemoved _ hs := State.portOrdered_withdraw _ hs

/-! ### No request waits at a free port when an event has ended (log 25) -/

theorem frameEvent_settled {s t : State} {act : State → State} (hs : s.portSettled) (ht : frameEvent s act = .next t) :
    t.portSettled := by
  unfold frameEvent at ht
  split at ht <;> cases ht
  · exact State.grant_leaves_settled _
  all_goals exact hs

theorem keyEvent_settled {s t : State} {fits : Nat → Bool} {use : Nat → State → State} (hs : s.portSettled)
    (ht : keyEvent s fits use = .next t) : t.portSettled := by
  obtain ⟨k, -, -, heq⟩ | ⟨-, heq⟩ := keyEvent_cases s fits use <;> rw [heq] at ht <;> cases ht
  · exact State.grant_leaves_settled _
  · exact hs

theorem transferEvent_settled {s t : State} {fits : TransferKind → Bool} {hand : Transfer → State → State}
    (hs : s.portSettled) (ht : transferEvent s fits hand = .next t) : t.portSettled := by
  obtain ⟨x, -, -, heq⟩ | ⟨-, heq⟩ := transferEvent_cases s fits hand <;> rw [heq] at ht <;> cases ht
  · exact State.grant_leaves_settled _
  · exact hs

theorem State.scan_port (s : State) (down : BitVec 64) : (s.scan down).port = s.port := by
  refine foldl_holds _ (fun t => t.port = s.port) (fun u k hu => ?_) _ _ rfl
  unfold State.considerKey State.offerKey
  (repeat' split) <;> simpa using hu

theorem State.offerFrame_port (s : State) (cell : Nat) : (s.offerFrame cell).port = s.port := by
  unfold State.offerFrame
  split <;> rfl

theorem State.withdraw_settled {s : State} (r : Requester) (hs : s.portSettled) : (s.withdraw r).portSettled := by
  intro hfree
  have hfree : s.port.inFlight = none := by simpa [State.withdraw] using hfree
  simp [State.withdraw, hs hfree]

theorem portSettled_of_port_eq {s t : State} (h : t.port = s.port) (hs : s.portSettled) : t.portSettled := by
  rwa [State.portSettled, h]

end Sys2Proof.Machine
end

section
/-! Every command leaves the Memory Port with no request waiting while it is free (R98, log 25). -/

namespace Sys2Proof.Machine

/-- A command that makes requests ends with the arbiter's grant, and any other leaves the port as it was. -/
theorem exec_settled {i : Instr} {s t : State} (hs : s.portSettled) (ht : exec i s = .next t) : t.portSettled := by
  cases i with
  | reset l => cases ht; exact nofun
  | setup | setupStage | loadList | startSolo | startCircle | endRound | say | spell | stop | status | progress | exclude
  | roster | restart | doze | unknownRequest | frameDiscard | beatFrame | dealFrame | letterFrame | closeFrame | otherFrame =>
    simp only [exec, execSetup, execSetupStage, execLoadList, execStartSolo, execStartCircle, execEndRound, execSay,
      execSpell, execStop, execStatus, execProgress, execExclude, execRoster, execRestart, execDoze, execUnknownRequest,
      request, execFrameDiscard, execBeatFrame, execDealFrame, execLetterFrame, execCloseFrame, execOtherFrame] at ht
    exact frameEvent_settled hs ht
  | headerTransfer | countByteTransfer | bodyTransfer | phraseDirectoryFetch | segmentDirectoryFetch
  | romDescriptorFetch | ramDescriptorFetch | frameFetch =>
    simp only [exec, execHeaderTransfer, execCountByteTransfer, execBodyTransfer, execPhraseDirectoryFetch,
      execSegmentDirectoryFetch, execRomDescriptorFetch, execRamDescriptorFetch, execFrameFetch] at ht
    exact transferEvent_settled hs ht
  | letterKey | eraseKey | doneKey | repeatKey | hintKey | otherKey =>
    simp only [exec, execLetterKey, execEraseKey, execDoneKey, execRepeatKey, execHintKey, execOtherKey] at ht
    exact keyEvent_settled hs ht
  | cartridgeRemoved =>
    simp only [exec, execCartridgeRemoved] at ht
    split at ht <;> cases ht
    · rw [State.endLoad_eq]
      exact portSettled_of_port_eq (by simp [State.loadEnded]) (State.withdraw_settled .loader hs)
    · exact hs
  | frameBoundary v => cases ht; exact State.grant_leaves_settled _
  | samplePeriod a b =>
    cases ht
    refine portSettled_of_port_eq ?_ hs
    unfold State.mix
    dsimp only
    split <;> rfl
  | scanPass down =>
    simp only [exec, execScanPass] at ht
    split at ht <;> cases ht
    · exact hs
    all_goals exact portSettled_of_port_eq (State.scan_port _ _) hs
  | roundTimerExpiry =>
    simp only [exec, execRoundTimerExpiry] at ht
    split at ht <;> cases ht
    · exact State.grant_leaves_settled _
    · exact hs
  | circleTimerExpiry =>
    simp only [exec, execCircleTimerExpiry] at ht
    split at ht <;> cases ht
    · exact State.grant_leaves_settled _
    · exact hs
  | beatTick =>
    simp only [exec, execBeatTick] at ht
    split at ht <;> cases ht
    · refine portSettled_of_port_eq ?_ hs
      unfold State.tick
      dsimp only
      split <;> simp
    all_goals exact hs
  | rosterAgeOut =>
    simp only [exec, execRosterAgeOut] at ht
    split at ht <;> cases ht
    · exact portSettled_of_port_eq (by simp) hs
    all_goals exact hs
  | keyWake =>
    simp only [exec, execKeyWake] at ht
    split at ht <;> cases ht <;> exact hs
  | linkWake =>
    simp only [exec, execLinkWake] at ht
    split at ht <;> cases ht <;> exact hs
  | settleEnd =>
    simp only [exec, execSettleEnd] at ht
    split at ht <;> cases ht
    · exact portSettled_of_port_eq (by simp [State.settled]) hs
    all_goals exact hs
  | openingLow =>
    simp only [exec, execOpeningLow] at ht
    split at ht <;> cases ht
    · exact portSettled_of_port_eq (State.offerFrame_port _ _) hs
    all_goals exact hs
  | glitch =>
    simp only [exec, execGlitch] at ht
    (repeat' split at ht) <;> cases ht <;> exact hs
  | quietGap cells =>
    simp only [exec, execQuietGap] at ht
    (repeat' split at ht) <;> cases ht <;> exact hs
  | frameOffer cell =>
    simp only [exec, execFrameOffer] at ht
    split at ht
    · cases ht; exact portSettled_of_port_eq (State.offerFrame_port _ _) hs
    · split at ht <;> cases ht
      · exact portSettled_of_port_eq (State.offerFrame_port _ _) hs
      · exact hs
    · cases ht; exact hs
  | arbitrationLoss cell =>
    simp only [exec, execArbitrationLoss] at ht
    (repeat' split at ht) <;> cases ht <;> exact hs
  | replyFrame b =>
    simp only [exec, execReplyFrame] at ht
    split at ht
    · exact frameEvent_settled hs ht
    · cases ht; exact hs
  | reportFrame =>
    simp only [exec, execReportFrame] at ht
    split at ht
    · exact frameEvent_settled hs ht
    · cases ht; exact hs
  | lowInGapWait =>
    simp only [exec, execLowInGapWait] at ht
    split at ht <;> cases ht <;> exact hs

theorem portSettled_step {s t : State} (hs : s.portSettled) (ht : step s = .next t) : t.portSettled := by
  unfold step at ht
  split at ht
  · cases ht; exact hs
  · rename_i c rest _
    exact exec_settled (s := s.setPending rest) hs ht

/-- Settles O58: QUIET voices and resume stacks by what happens to one voice, the port by its changes and the grant that ends
every event with requests, the marks by both. -/
theorem voicesAndPortKeptByEveryStep : Obligations.VoicesAndPortKeptByEveryStep := by
  refine fun s t ht => ⟨fun hquiet hstacks => ?_, fun hone horder hsettled => ?_, fun hs => marksNumbered_step hs ht⟩
  · have hordered : VoicesHold (fun _ x => x.quietIsEmpty ∧ x.stackOrdered) s := by
      intro v
      cases v
      · exact ⟨hquiet.1, hstacks.1⟩
      · exact ⟨hquiet.2, hstacks.2⟩
    obtain ⟨hquietA, hstackA⟩ := voiceOrdered.step hordered ht .A
    obtain ⟨hquietB, hstackB⟩ := voiceOrdered.step hordered ht .B
    exact ⟨⟨hquietA, hquietB⟩, hstackA, hstackB⟩
  · obtain ⟨hone, horder⟩ := portOrdered_parts.step ⟨hone, horder⟩ ht
    exact ⟨hone, horder, portSettled_step hsettled ht⟩

end Sys2Proof.Machine
end

section
/-! The round facts and doze (R64, R69, R127, R145, R146, R153, R182). -/

namespace Sys2Proof.Machine

/-! ## The loss of the word (R166) -/

/-- What the loss of the word gives, from what its speech keeps: P before, Q while "you lost the word" is offered. -/
theorem State.loseWord_of {P Q : State → Prop} (hspeech : KeptBySpeech Q) {u : State}
    (hq : u.round.state.player = false → P u → Q u)
    (hrelease : u.round.state.player = true → P u → Q u.removeRoundFrames.releaseTarget)
    (hlost : ∀ {s : State}, Q s → P (s.setRoundState .circleLost)) (hu : P u) : P u.loseWord := by
  refine hlost ?_
  have hmid : Q (if u.round.state.player then u.removeRoundFrames.releaseTarget else u) := by
    split
    · exact hrelease ‹_› hu
    · exact hq (by simp_all) hu
  have hgroup : ∀ (es : List Entry) (v : VoiceId) (s : State), (∀ e ∈ es, e.markNo = none) → Q s → Q (s.offerAll v es) := by
    intro es v
    induction es with
    | nil => exact fun _ _ hs => hs
    | cons e es ih =>
      intro s hm hs
      rw [List.forall_mem_cons] at hm
      exact ih _ hm.2 (hspeech.offer v e (by simp [hm.1]) hs)
  exact hgroup _ _ _ (State.phrases_unmarked _ _ _ _) hmid

theorem State.releaseTarget_round (s : State) :
    s.removeRoundFrames.releaseTarget.round =
      if s.attempt.pending = [] then s.round else { s.round with misses := 0 } := by
  unfold State.releaseTarget State.removePending
  show (if s.attempt.pending = [] then _ else _ : State).round = _
  split <;> rfl

/-! ## The round facts (R64, R69, R153) -/

/-- In an open circle round the facts are those of one state and another alike. -/
theorem State.factsFollowState_iff_of_open {s : State} (hopen : s.round.state.circleOpen = true) :
    s.factsFollowState ↔ s.round.soloTimer = .stopped ∧ s.round.circleTimer ≠ .stopped ∧ s.round.deal = none ∧
      s.round.kind = some .circle := by
  cases hstate : s.round.state <;> simp_all [State.factsFollowState, RoundState.circleOpen]

theorem RoundState.circleOpen_of_player {x : RoundState} (h : x.player = true) : x.circleOpen = true := by
  cases x <;> simp_all [RoundState.player, RoundState.circleOpen]

/-- A landing leaves the facts in accord: the circle timer runs anew (R162). -/
theorem State.factsFollowState_restartCircle {s t : State} (hround : t.round = { s.round with misses := 0 })
    (hopen : s.round.state.circleOpen = true) (hs : s.factsFollowState) : t.restartCircle.factsFollowState := by
  have hopen' : t.restartCircle.round.state.circleOpen = true := by simpa [State.restartCircle, hround] using hopen
  rw [State.factsFollowState_iff_of_open hopen] at hs
  rw [State.factsFollowState_iff_of_open hopen']
  simp [State.restartCircle, hround, hs]

theorem factsFollowState_parts : Parts State.factsFollowState where
  reset _ _ := (by decide : State.reset.factsFollowState)
  promptEndsSolo hstate h := by simp_all [State.factsFollowState, RoundState.circleOpen]
  promptEndsCircle hstate h := by simp_all [State.factsFollowState, RoundState.circleOpen]
  reviewEnds _ _ := by simp [State.factsFollowState, State.toIdle, RoundState.circleOpen]
  toIdle _ := by simp [State.factsFollowState, State.toIdle, RoundState.circleOpen]
  opensSolo _ _ _ _ := by
    simp [State.factsFollowState, State.setRoundState, State.takeTarget, State.setRows, State.openFacts, RoundState.circleOpen]
  opensCircle _ _ _ _ _ := by
    simp [State.factsFollowState, State.setRoundState, State.takeTarget, State.setRows, State.openFacts, RoundState.circleOpen]
  watches _ _ _ _ := by
    simp [State.factsFollowState, State.setRoundState, State.clearAttempt, State.setRows, State.openFacts,
      RoundState.circleOpen]
  deals _ _ hidle h := by simp_all [State.factsFollowState, RoundState.circleOpen]
  restarts _ _ := by simp [State.factsFollowState, Round.reset, RoundState.circleOpen]
  timerRestarts hopen h := by simp_all [State.factsFollowState, RoundState.circleOpen]
  reviews hopen h := by simp_all [State.factsFollowState, RoundState.circleOpen]
  landsOwn hopen _ h := State.factsFollowState_restartCircle rfl hopen h
  landsPeer _ hplayer _ _ h :=
    State.factsFollowState_restartCircle rfl (RoundState.circleOpen_of_player hplayer) h
  landsWatched {s} _ hwatches _ h :=
    State.factsFollowState_restartCircle (s := s) rfl (by rw [hwatches]; rfl) h
  becomesSpectator {s} hplayer _ h := by
    have hstate : s.round.state = .circleOpening ∨ s.round.state = .circlePlayer := by
      cases hs : s.round.state <;> simp_all [RoundState.player]
    obtain hstate | hstate := hstate <;>
      simp_all [State.factsFollowState, State.setRoundState, State.setRows, RoundState.circleOpen]

/-- In an open circle round, the facts follow the state while the voices speak. -/
theorem factsOpen_speech : KeptBySpeech (fun s => s.factsFollowState ∧ s.round.state.circleOpen = true) := by
  refine SpeechParts.kept ?_ (fun v _ h => by cases v <;> exact h)
  exact {
    promptEndsSolo := fun hstate h => by simp [hstate, RoundState.circleOpen] at h
    promptEndsCircle := fun hstate h => ⟨factsFollowState_parts.promptEndsCircle hstate h.1, rfl⟩
    reviewEnds := fun hstate h => by simp [hstate, RoundState.circleOpen] at h }

theorem State.factsFollowState_setLost {s : State} (h : s.factsFollowState ∧ s.round.state.circleOpen = true) :
    (s.setRoundState .circleLost).factsFollowState ∧ (s.setRoundState .circleLost).round.state.circleOpen = true := by
  obtain ⟨hfacts, hopen⟩ := h
  have hlost : (s.setRoundState .circleLost).round.state.circleOpen = true := rfl
  rw [State.factsFollowState_iff_of_open hopen] at hfacts
  exact ⟨(State.factsFollowState_iff_of_open hlost).mpr hfacts, hlost⟩

theorem State.factsFollowState_loseWord {s : State} (hs : s.factsFollowState) (hopen : s.round.state.circleOpen = true) :
    s.loseWord.factsFollowState := by
  have hreleased : s.removeRoundFrames.releaseTarget.factsFollowState ∧
      s.removeRoundFrames.releaseTarget.round.state.circleOpen = true := by
    have hround := s.releaseTarget_round
    split at hround <;> simp only [State.factsFollowState, hround] <;> exact ⟨hs, hopen⟩
  exact (State.loseWord_of (P := fun s => s.factsFollowState ∧ s.round.state.circleOpen = true) factsOpen_speech (fun _ => id)
    (fun _ _ => hreleased) State.factsFollowState_setLost ⟨hs, hopen⟩).1

theorem factsFollowState_step {s t : State} (hs : s.factsFollowState) (ht : step s = .next t) : t.factsFollowState := by
  have hvoice : ∀ {u : State} v x, u.factsFollowState → (u.setVoice v x).factsFollowState :=
    fun v _ h => by cases v <;> exact h
  have hkept : Kept State.factsFollowState :=
    { toParts := factsFollowState_parts, toKeptBySpeech := factsFollowState_parts.toSpeechParts.kept hvoice }
  obtain h | ⟨b, -, -, hu, -, -, -, -⟩ | ⟨hu, hopen⟩ := hkept.step hs ht
  · exact h
  · exact hkept.enterDoze (fun _ hw => hw) id b hu
  · exact hkept.grant (State.factsFollowState_loseWord hu hopen)

/-! ## An awake part (R127, R145, R182) -/

/-- An awake part reads the line, and one that is going to doze is in IDLE and loads no list. -/
def State.awakeSettled (s : State) : Prop := s.power = .awake ∧ s.link.receiver ≠ .off ∧ s.goesToDozeIdle

/-- In a state other than IDLE the station is not going to doze. -/
theorem State.notGoingToDoze {s : State} (hs : s.awakeSettled) (hstate : s.round.state ≠ .idle) : s.goingToDoze = false := by
  by_contra hdoze
  exact hstate (hs.2.2 (by simpa using hdoze)).1

/-- A station that is not going to doze may do anything else that an awake part does. -/
theorem State.awakeSettled_of_notGoing {s t : State} (hs : s.awakeSettled) (hpower : t.power = s.power)
    (hreceiver : t.link.receiver = s.link.receiver) (hdoze : t.goingToDoze = false) : t.awakeSettled :=
  ⟨hpower.trans hs.1, fun h => hs.2.1 (hreceiver ▸ h), fun h => by rw [hdoze] at h; cases h⟩

/-- A station that is not in IDLE may do so as well. -/
theorem State.awakeSettled_of_notIdle {s t : State} (hs : s.awakeSettled) (hpower : t.power = s.power)
    (hreceiver : t.link.receiver = s.link.receiver) (hanswer : t.answer = s.answer) (hstate : s.round.state ≠ .idle) :
    t.awakeSettled :=
  State.awakeSettled_of_notGoing hs hpower hreceiver <| by
    have hdoze := State.notGoingToDoze hs hstate
    simpa [State.goingToDoze, hanswer] using hdoze

theorem State.goingToDoze_of_none {s : State} (h : s.answer = none) : s.goingToDoze = false := by
  simp [State.goingToDoze, h]

theorem awakeSettled_parts : Parts State.awakeSettled where
  reset _ _ := ⟨rfl, nofun, nofun⟩
  answered {s} r _ hdone hs := by
    refine ⟨hs.1, hs.2.1, fun hdoze => ?_⟩
    simp only [State.goingToDoze, State.setAnswer_answer, Bool.and_eq_true, beq_iff_eq] at hdoze
    exact hdone hdoze.1 hdoze.2
  replied hs := ⟨hs.1, hs.2.1, nofun⟩
  receiver _ hx hs := ⟨hs.1, hx, hs.2.2⟩
  discarded _ hx hs := ⟨hs.1, hx, hs.2.2⟩
  loadStarts _ _ hnone _ hs := State.awakeSettled_of_notGoing hs rfl rfl (State.goingToDoze_of_none hnone)
  loadAbsent hidle _ hs := ⟨hs.1, hs.2.1, fun _ => ⟨hidle, nofun⟩⟩
  loadEnds o i _ _ _ _ hs :=
    ⟨hs.1, hs.2.1, fun hdoze => ⟨(hs.2.2 hdoze).1, by simp only [State.loadEnded]; split <;> simp⟩⟩
  bodyEnds r o i _ _ _ _ _ hs :=
    ⟨hs.1, hs.2.1, fun hdoze => ⟨(hs.2.2 hdoze).1, by simp only [State.loadEnded]; split <;> simp⟩⟩
  cartridgeRemoved _ hs := ⟨hs.1, hs.2.1, fun hdoze => ⟨(hs.2.2 hdoze).1, nofun⟩⟩
  wakes _ hdozing hs := by
    rw [hs.1] at hdozing
    cases hdozing
  settles hpower hs := absurd hs.1 hpower
  promptEndsSolo hstate hs := State.awakeSettled_of_notIdle hs rfl rfl rfl (by simp [hstate])
  promptEndsCircle hstate hs := State.awakeSettled_of_notIdle hs rfl rfl rfl (by simp [hstate])
  reviewEnds _ hs := ⟨hs.1, hs.2.1, fun hdoze => ⟨rfl, (hs.2.2 hdoze).2⟩⟩
  toIdle hs := ⟨hs.1, hs.2.1, fun hdoze => ⟨rfl, (hs.2.2 hdoze).2⟩⟩
  opensSolo _ hnone _ hs := State.awakeSettled_of_notGoing hs rfl rfl (State.goingToDoze_of_none hnone)
  opensCircle _ _ hnot _ hs :=
    hnot.elim (fun hdoze => State.awakeSettled_of_notGoing hs rfl rfl hdoze)
      (fun hdealing => State.awakeSettled_of_notIdle hs rfl rfl rfl (by simp [hdealing]))
  watches _ _ hnot hs :=
    hnot.elim (fun hdoze => State.awakeSettled_of_notGoing hs rfl rfl hdoze)
      (fun hdealing => State.awakeSettled_of_notIdle hs rfl rfl rfl (by simp [hdealing]))
  deals _ hnone _ hs := State.awakeSettled_of_notGoing hs rfl rfl (State.goingToDoze_of_none hnone)
  restarts _ hs := ⟨hs.1, hs.2.1, fun hdoze => ⟨rfl, (hs.2.2 hdoze).2⟩⟩
  reviews hopen hs := State.awakeSettled_of_notIdle hs rfl rfl rfl (by simp [hopen])
  becomesSpectator {s} hplayer _ hs := by
    refine State.awakeSettled_of_notIdle hs rfl rfl rfl (fun hidle => ?_)
    simp [hidle, RoundState.player] at hplayer

/-- An awake part that is not going to doze stays so while its voices speak. -/
theorem awakeNotGoing_speech :
    KeptBySpeech (fun s => s.power = .awake ∧ s.link.receiver ≠ .off ∧ s.goingToDoze = false) :=
  SpeechParts.kept {} (fun v _ h => by cases v <;> exact h)

end Sys2Proof.Machine
end

section
/-! Doze and the settle (R61, R62, R127, R145, R146): nothing that reaches a part asleep wakes anything but its end does. -/

namespace Sys2Proof.Machine

/-! ## A part asleep -/

/-- What doze and the settle keep quiet (R127, R145, R146, R182). -/
def State.asleep (s : State) : Prop :=
  s.power ≠ .awake ∧ s.link.receiver = .off ∧ s.round.state = .idle ∧ s.words.state ≠ .loading ∧
  s.voiceA.current = none ∧ s.voiceB.current = none ∧ s.link.queue = [] ∧ s.answer = none ∧ s.link.inFlight = none

/-- The two settled conditions are those of a part awake and of one asleep. -/
theorem State.dozeIsQuiet_iff (s : State) : s.dozeIsQuiet ∧ s.goesToDozeIdle ↔ s.awakeSettled ∨ s.asleep := by
  constructor
  · rintro ⟨⟨hoff, hquiet⟩, hdoze⟩
    by_cases hpower : s.power = .awake
    · exact .inl ⟨hpower, fun h => hoff.mp h hpower, hdoze⟩
    · exact .inr ⟨hpower, hoff.mpr hpower, hquiet hpower⟩
  · rintro (⟨hpower, hon, hdoze⟩ | ⟨hpower, hoff, hquiet⟩)
    · exact ⟨⟨⟨fun h => absurd h hon, fun h => absurd hpower h⟩, fun h => absurd hpower h⟩, hdoze⟩
    · obtain ⟨-, -, -, -, -, hanswer, -⟩ := id hquiet
      refine ⟨⟨⟨fun _ => hpower, fun _ => hoff⟩, fun _ => hquiet⟩, fun hdoze => ?_⟩
      simp [State.goingToDoze_of_none hanswer] at hdoze

/-- A part stays asleep while power, link, round, table state, voices and answer slot are as they were. -/
theorem State.asleep.stays {s t : State} (hs : s.asleep) (hpower : t.power ≠ .awake) (hlink : t.link = s.link)
    (hround : t.round = s.round) (hwords : t.words.state ≠ .loading) (hA : t.voiceA = s.voiceA)
    (hB : t.voiceB = s.voiceB) (hanswer : t.answer = s.answer) : t.asleep := by
  obtain ⟨-, hoff, hidle, -, hvoiceA, hvoiceB, hqueue, hnone, hflight⟩ := hs
  exact ⟨hpower, hlink ▸ hoff, hround ▸ hidle, hwords, hA ▸ hvoiceA, hB ▸ hvoiceB, hlink ▸ hqueue, hanswer ▸ hnone,
    hlink ▸ hflight⟩

theorem State.asleep.voiceQuiet {s : State} (hs : s.asleep) (v : VoiceId) : (s.voice v).current = none := by
  obtain ⟨-, -, -, -, hA, hB, -⟩ := hs
  cases v
  · exact hA
  · exact hB

theorem State.asleep.grant {s : State} (hs : s.asleep) : s.grant.asleep := by
  unfold State.grant
  split <;> exact hs

theorem State.asleep.ask {s : State} (hs : s.asleep) (r : Requester) (k : TransferKind) : (s.ask r k).asleep :=
  hs.stays hs.1 rfl rfl hs.2.2.2.1 rfl rfl rfl

theorem State.asleep.frameEvent {s t : State} {act : State → State} (hs : s.asleep) (ht : frameEvent s act = .next t) :
    t.asleep := by
  obtain ⟨-, hoff, -⟩ := id hs
  unfold Machine.frameEvent at ht
  rw [hoff] at ht
  cases ht
  exact hs

theorem State.asleep.keyEvent {s t : State} {fits : Nat → Bool} {use : Nat → State → State} (hs : s.asleep)
    (ht : keyEvent s fits use = .next t) : t.asleep := by
  have hnone : s.nextKey = none := by simp [State.nextKey, hs.1]
  unfold Machine.keyEvent at ht
  rw [hnone] at ht
  cases ht
  exact hs

theorem State.asleep.transferEvent {s t : State} {fits : TransferKind → Bool} {hand : Transfer → State → State}
    (hs : s.asleep) (hhand : ∀ x {u : State}, u.asleep → (hand x u).asleep) (ht : transferEvent s fits hand = .next t) :
    t.asleep := by
  obtain ⟨x, -, -, heq⟩ | ⟨-, heq⟩ := transferEvent_cases s fits hand <;> rw [heq] at ht <;> cases ht
  · exact (hhand x (u := s.transferEnds) hs).grant
  · exact hs

/-! ## The transfers that end while the part is asleep -/

theorem State.asleep.loadEnded {s : State} (hs : s.asleep) (o : LoadOutcome) (i : BitVec 16) : (s.endLoad o i).asleep := by
  rw [State.endLoad_eq]
  refine hs.stays (by simpa [State.loadEnded] using hs.1) (by simp [State.loadEnded]) (by simp [State.loadEnded]) ?_
    (by simp [State.loadEnded]) (by simp [State.loadEnded]) (by simp [State.loadEnded])
  simp only [State.post_keeps, State.loadEnded]
  split <;> simp

theorem State.asleep.loaderAsks {s : State} (hs : s.asleep) : s.loaderAsks.asleep := by
  unfold State.loaderAsks
  split
  · exact hs
  · split
    · exact hs
    · exact hs.ask _ _

theorem State.asleep.loaderTakes {s : State} (hs : s.asleep) (x : Transfer) {take : Load → State → State}
    (htake : ∀ l, (take l s).asleep) : (s.loaderTakes x take).asleep := by
  unfold State.loaderTakes
  split
  · exact hs.loaderAsks
  · split
    · exact htake _
    · exact hs

theorem State.asleep.setLoader {s : State} (hs : s.asleep) (l : Option Load) : (s.setLoader l).asleep :=
  hs.stays hs.1 rfl rfl hs.2.2.2.1 rfl rfl rfl

theorem State.asleep.takeHeader {s : State} (hs : s.asleep) (bytes : List Byte) (l : Load) :
    (takeHeader bytes l s).asleep := by
  unfold Machine.takeHeader
  split
  · exact hs.loadEnded _ _
  · exact (hs.setLoader _).loaderAsks

theorem State.asleep.takeCountByte {s : State} (hs : s.asleep) (count : Byte) (l : Load) :
    (takeCountByte count l s).asleep := by
  unfold Machine.takeCountByte
  split
  · exact hs.loadEnded _ _
  · exact (hs.setLoader _).loaderAsks

theorem State.asleep.takeBody {s : State} (hs : s.asleep) (bytes : List Byte) (l : Load) : (takeBody bytes l s).asleep := by
  unfold Machine.takeBody
  split
  · rename_i m _
    have hadded : (s.setWords { s.words with records := s.words.records ++ [recordOf m bytes] }).asleep :=
      hs.stays hs.1 rfl rfl hs.2.2.2.1 rfl rfl rfl
    dsimp only
    split
    · exact hadded.loadEnded _ _
    · exact (hadded.setLoader _).loaderAsks
  all_goals exact hs

theorem State.asleep.readerAsks {s : State} (hs : s.asleep) (st : Store) : (s.setStore st).readerAsks.asleep := by
  have hstore : (s.setStore st).asleep := hs
  unfold State.readerAsks
  split
  · exact hstore
  · split <;> exact hstore.ask _ _

theorem State.asleep.readerTakesEntry {s : State} (hs : s.asleep) (a : BitVec 24) : (s.readerTakesEntry a).asleep := by
  unfold State.readerTakesEntry
  split
  · exact hs
  · split <;> exact hs.readerAsks _

theorem State.asleep.readerTakesDescriptor {s : State} (hs : s.asleep) (d : Descriptor) :
    (s.readerTakesDescriptor d).asleep := by
  unfold State.readerTakesDescriptor
  split
  · exact hs
  · exact hs.readerAsks _

/-- A QUIET voice has no walk to go on (R118). -/
theorem State.goOn_quiet {s : State} {v : VoiceId} (h : (s.voice v).current = none) : s.goOn v = s := by
  have hsame : s.advance v = s := by
    obtain heq | ⟨c, -, -, hc, -⟩ := s.advance_cases v
    · exact heq
    · simp [h] at hc
  simp [State.goOn, hsame, h]

theorem State.voiceTakes_quiet {s : State} {v : VoiceId} (h : (s.voice v).current = none) (x : Transfer)
    (take : Context → Context) : s.voiceTakes v x take = s := by
  simp [State.voiceTakes, State.goOn_quiet h, h]

theorem State.frameArrives_quiet {s : State} {v : VoiceId} (h : (s.voice v).current = none) (x : Transfer)
    (bytes : List Byte) : s.frameArrives v x bytes = s := by
  simp [State.frameArrives, State.goOn_quiet h, h]

/-! ## Every command that reaches a part asleep -/

theorem State.asleep.scan {s : State} (hs : s.asleep) (down : BitVec 64) : (s.scan down).asleep := by
  refine foldl_holds _ State.asleep (fun u k hu => ?_) _ (s.setScanner _) hs
  unfold State.considerKey State.offerKey
  (repeat' split) <;> exact hu

theorem exec_asleep {i : Instr} {s t : State} (hs : s.asleep) (ht : exec i s = .next t) : t.awakeSettled ∨ t.asleep := by
  cases i with
  | reset l =>
    cases ht
    exact .inl ⟨rfl, nofun, nofun⟩
  | setup | setupStage | loadList | startSolo | startCircle | endRound | say | spell | stop | status | progress | exclude
  | roster | restart | doze | unknownRequest | frameDiscard | beatFrame | dealFrame | letterFrame | closeFrame | otherFrame =>
    simp only [exec, execSetup, execSetupStage, execLoadList, execStartSolo, execStartCircle, execEndRound, execSay,
      execSpell, execStop, execStatus, execProgress, execExclude, execRoster, execRestart, execDoze, execUnknownRequest,
      request, execFrameDiscard, execBeatFrame, execDealFrame, execLetterFrame, execCloseFrame, execOtherFrame] at ht
    exact .inr (hs.frameEvent ht)
  | letterKey | eraseKey | doneKey | repeatKey | hintKey | otherKey =>
    simp only [exec, execLetterKey, execEraseKey, execDoneKey, execRepeatKey, execHintKey, execOtherKey] at ht
    exact .inr (hs.keyEvent ht)
  | headerTransfer bytes =>
    simp only [exec, execHeaderTransfer] at ht
    exact .inr (hs.transferEvent (fun x u hu => hu.loaderTakes x (hu.takeHeader bytes)) ht)
  | countByteTransfer count =>
    simp only [exec, execCountByteTransfer] at ht
    exact .inr (hs.transferEvent (fun x u hu => hu.loaderTakes x (hu.takeCountByte count)) ht)
  | bodyTransfer bytes =>
    simp only [exec, execBodyTransfer] at ht
    exact .inr (hs.transferEvent (fun x u hu => hu.loaderTakes x (hu.takeBody bytes)) ht)
  | phraseDirectoryFetch bytes =>
    simp only [exec, execPhraseDirectoryFetch] at ht
    refine .inr (hs.transferEvent (fun x u hu => ?_) ht)
    unfold handPhraseEntry
    split
    · rwa [State.voiceTakes_quiet (hu.voiceQuiet _)]
    · exact hu.readerTakesEntry _
    · exact hu
  | segmentDirectoryFetch bytes =>
    simp only [exec, execSegmentDirectoryFetch] at ht
    refine .inr (hs.transferEvent (fun x u hu => ?_) ht)
    unfold handSegment
    split
    · rwa [State.voiceTakes_quiet (hu.voiceQuiet _)]
    all_goals exact hu
  | romDescriptorFetch bytes =>
    simp only [exec, execRomDescriptorFetch] at ht
    refine .inr (hs.transferEvent (fun x u hu => ?_) ht)
    unfold handDescriptor
    split
    · rwa [State.voiceTakes_quiet (hu.voiceQuiet _)]
    · exact hu.readerTakesDescriptor _
    · exact hu
  | ramDescriptorFetch =>
    simp only [exec, execRamDescriptorFetch] at ht
    refine .inr (hs.transferEvent (fun x u hu => ?_) ht)
    unfold handSlot
    split
    · rwa [State.voiceTakes_quiet (hu.voiceQuiet _)]
    all_goals exact hu
  | frameFetch bytes =>
    simp only [exec, execFrameFetch] at ht
    refine .inr (hs.transferEvent (fun x u hu => ?_) ht)
    unfold handFrame
    split
    · rwa [State.frameArrives_quiet (hu.voiceQuiet _)]
    all_goals exact hu
  | cartridgeRemoved =>
    simp only [exec, execCartridgeRemoved, hs.2.2.2.1, if_false] at ht
    cases ht
    exact .inr hs
  | frameBoundary v =>
    cases ht
    have hquiet := hs.voiceQuiet v
    refine .inr (State.asleep.grant ?_)
    simpa [State.boundary, hquiet] using hs
  | samplePeriod a b =>
    cases ht
    refine .inr ?_
    unfold State.mix
    dsimp only
    split <;> exact hs
  | scanPass down =>
    simp only [exec, execScanPass] at ht
    split at ht <;> cases ht
    · exact .inr hs
    all_goals exact .inr (hs.scan down)
  | roundTimerExpiry =>
    simp only [exec, execRoundTimerExpiry, hs.2.2.1] at ht
    cases ht
    exact .inr hs
  | circleTimerExpiry =>
    simp only [exec, execCircleTimerExpiry, hs.2.2.1, RoundState.circleOpen] at ht
    cases ht
    exact .inr hs
  | beatTick | rosterAgeOut =>
    simp only [exec, execBeatTick, execRosterAgeOut] at ht
    split at ht
    · exact absurd ‹_› hs.1
    all_goals cases ht; exact .inr hs
  | keyWake | linkWake =>
    simp only [exec, execKeyWake, execLinkWake] at ht
    split at ht <;> cases ht
    · exact .inr (hs.stays nofun rfl rfl hs.2.2.2.1 rfl rfl rfl)
    all_goals exact .inr hs
  | settleEnd =>
    simp only [exec, execSettleEnd] at ht
    split at ht <;> cases ht
    · refine .inl ⟨by simp [State.settled], by simp [State.settled, State.setReceiver], fun hdoze => ?_⟩
      rw [State.goingToDoze_of_none (by simpa [State.settled] using hs.2.2.2.2.2.2.2.1)] at hdoze
      cases hdoze
    all_goals exact .inr hs
  | openingLow | glitch | quietGap | frameOffer | arbitrationLoss | lowInGapWait =>
    simp only [exec, execOpeningLow, execGlitch, execQuietGap, execFrameOffer, execArbitrationLoss, execLowInGapWait,
      hs.2.1] at ht
    cases ht
    exact .inr hs
  | replyFrame | reportFrame =>
    simp only [exec, execReplyFrame, execReportFrame] at ht
    split at ht
    · exact .inr (hs.frameEvent ht)
    · cases ht; exact .inr hs

/-! ## Going to sleep (R145) -/

/-- What stopping a voice leaves as it is in IDLE while nothing is to be sent. -/
theorem idleSilent_speech : KeptBySpeech (fun s => s.link.receiver = .off ∧ s.round.state = .idle ∧
    s.words.state ≠ .loading ∧ s.link.queue = [] ∧ s.answer = none ∧ s.link.inFlight = none) := by
  refine SpeechParts.kept ?_ (fun v _ h => by cases v <;> exact h)
  exact {
    promptEndsSolo := fun hstate h => by simp [hstate] at h
    promptEndsCircle := fun hstate h => by simp [hstate] at h
    reviewEnds := fun hstate h => by simp [hstate] at h }

/-- A stopped voice is QUIET, and the other one is as it was (R118). -/
theorem State.stopVoice_voice (s : State) (silent : Bool) (v w : VoiceId) :
    (s.stopVoice silent v).voice w = if w = v then Voice.quiet else s.voice w := by
  have hends : ∀ u : State, u.voice w = (if w = v then Voice.quiet else s.voice w) → ∀ es : List Entry,
      (es.foldl (fun u e => u.endEntry silent e .cut) u).voice w = if w = v then Voice.quiet else s.voice w := by
    intro u hu es
    refine foldl_holds _ (fun t => t.voice w = _) (fun t e ht => ?_) es u hu
    rwa [State.voice_congr (s := t) (by simp) (by simp)]
  refine hends _ ?_ _
  rw [State.voice_congr (s := s.setVoice v Voice.quiet) (by simp) (by simp)]
  split
  · rename_i hw
    rw [hw, State.setVoice_voice]
  · exact State.setVoice_other s ‹_› _

/-- Doze entry puts the part to sleep (R145). -/
theorem State.enterDoze_asleep {u : State} (b : Bool) (hidle : u.round.state = .idle) (hwords : u.words.state ≠ .loading)
    (hanswer : u.answer = none) (hflight : u.link.inFlight = none) : (u.enterDoze b).asleep := by
  have hstopped := idleSilent_speech.stopVoice false .B (idleSilent_speech.stopVoice false .A
    (s := u.emptyQueue.setReceiver .off) ⟨rfl, hidle, hwords, rfl, hanswer, hflight⟩)
  have hquiet : ∀ v, ((u.emptyQueue.setReceiver .off).stopBoth false).voice v = Voice.quiet := by
    intro v
    unfold State.stopBoth
    rw [State.stopVoice_voice, State.stopVoice_voice]
    cases v <;> rfl
  rw [← State.stopBoth] at hstopped
  unfold State.enterDoze
  dsimp only
  generalize (u.emptyQueue.setReceiver .off).stopBoth false = w at hstopped hquiet ⊢
  obtain ⟨hoff, hidle, hwords, hqueue, hanswer, hflight⟩ := hstopped
  have hA := congrArg Voice.current (hquiet .A)
  have hB := congrArg Voice.current (hquiet .B)
  split
  · exact ⟨nofun, hoff, hidle, hwords, hA, hB, hqueue, hanswer, hflight⟩
  · exact ⟨nofun, hoff, hidle, hwords, hA, hB, hqueue, hanswer, hflight⟩

/-! ## The loss of the word by an awake part (R166) -/

theorem State.loseWord_awakeSettled {u : State} (hu : u.awakeSettled) (hopen : u.round.state.circleOpen = true) :
    u.loseWord.awakeSettled := by
  have hstate : u.round.state ≠ .idle := fun h => by simp [h, RoundState.circleOpen] at hopen
  have hnot := State.notGoingToDoze hu hstate
  have hlost := State.loseWord_of
    (P := fun s => s.power = .awake ∧ s.link.receiver ≠ .off ∧ s.goingToDoze = false)
    (Q := fun s => s.power = .awake ∧ s.link.receiver ≠ .off ∧ s.goingToDoze = false)
    awakeNotGoing_speech (u := u) (fun _ => id) (fun _ h => ?_) id
    ⟨hu.1, hu.2.1, hnot⟩
  · exact ⟨hlost.1, hlost.2.1, fun h => by rw [hlost.2.2] at h; cases h⟩
  · simpa [State.goingToDoze, State.removeRoundFrames, State.removeKind] using h

theorem awakeSettled_step {s t : State} (hs : s.awakeSettled) (ht : step s = .next t) : t.awakeSettled ∨ t.asleep := by
  have hvoice : ∀ {u : State} v x, u.awakeSettled → (u.setVoice v x).awakeSettled :=
    fun v _ h => by cases v <;> exact h
  have hkept : Kept State.awakeSettled :=
    { toParts := awakeSettled_parts, toKeptBySpeech := awakeSettled_parts.toSpeechParts.kept hvoice }
  obtain h | ⟨b, hw, hdoze, -, hanswer, hflight, hround, hwords⟩ | ⟨hu, hopen⟩ := hkept.step hs ht
  · exact .inl h
  · obtain ⟨hidle, hloading⟩ := hw.2.2 hdoze
    exact .inr (State.enterDoze_asleep b (hround ▸ hidle) (hwords ▸ hloading) hanswer hflight).grant
  · exact .inl (hkept.grant (State.loseWord_awakeSettled hu hopen))

/-- Settles O60: the round facts by every change of the round, and doze by the two kinds of part that a step meets, one awake
and one asleep. -/
theorem factsAndDozeKeptByEveryStep : Obligations.FactsAndDozeKeptByEveryStep := by
  refine fun s t ht => ⟨fun hs => factsFollowState_step hs ht, fun hquiet hdoze => ?_⟩
  rw [State.dozeIsQuiet_iff]
  obtain hawake | hasleep := s.dozeIsQuiet_iff.mp ⟨hquiet, hdoze⟩
  · exact awakeSettled_step hawake ht
  · unfold step at ht
    split at ht
    · cases ht; exact .inr hasleep
    · rename_i c rest _
      exact exec_asleep (s := s.setPending rest) hasleep ht

end Sys2Proof.Machine
end

section
/-! The row stack, the Attempt Record and the Word Table (R2 to R7, R20, R21, R24, R30). -/

namespace Sys2Proof.Machine

/-! ## The loader's transfers and the Word Table (R2 to R7) -/

/-- The Word Table as its state and the load in flight say, and the cartridge transfers as the load asks for them. -/
def State.tableHolds (s : State) : Prop :=
  s.tableFollowsState ∧ s.loadFollowsPhase ∧ s.loaderTransferFits ∧ s.oneRequestEach

namespace State.tableHolds

variable {s : State} {t : Transfer} {l : Load}

theorem table (hs : s.tableHolds) : s.tableFollowsState := hs.1
theorem phase (hs : s.tableHolds) : s.loadFollowsPhase := hs.2.1
theorem fits (hs : s.tableHolds) : s.loaderTransferFits := hs.2.2.1
theorem one (hs : s.tableHolds) : s.oneRequestEach := hs.2.2.2

/-- The cartridge transfer in flight is the one that the load's phase asks for. -/
theorem asked (hs : s.tableHolds) (hport : s.port.inFlight = some t) (hkind : t.kind.select = some .cartridge)
    (hkept : t.discarded = false) (hloader : s.loader = some l) : t.requester = .loader ∧ l.asks = t.kind := by
  obtain ⟨hown, hasked⟩ := hs.fits t (by simp [Port.all, hport]) hkind
  simpa [hown, hloader] using hasked hkept

/-- When the loader's transfer has ended no cartridge transfer is left at the port (R98). -/
theorem freed_fits (hs : s.tableHolds) (hport : s.port.inFlight = some t) (hown : t.requester = .loader) :
    ∀ u ∈ s.transferEnds.port.all, u.kind.select ≠ some .cartridge := by
  intro u hu hkind
  have hother := State.hasTransfer_eq_false.mp (State.hasTransfer_freed hs.one hport) u hu
  have hmem : u ∈ s.port.all := by
    simp only [Port.all, State.transferEnds, State.setPort_port, Option.toList_none, List.nil_append] at hu
    simp [Port.all, hu]
  exact hother ((hs.fits u hmem hkind).1.trans hown.symm)

/-- Without a load every cartridge transfer is thrown away. -/
theorem fits_of_none (hs : s.tableHolds) (hnone : s.loader = none) :
    ∀ u ∈ s.port.all, u.kind.select = some .cartridge → u.requester = .loader ∧ u.discarded = true := by
  intro u hu hkind
  obtain ⟨hown, hasked⟩ := hs.fits u hu hkind
  refine ⟨hown, ?_⟩
  by_contra hkept
  simpa [hnone] using hasked (by simpa using hkept)

/-- A load in flight leaves room for the records that it is to take (R4). -/
theorem records_lt (hs : s.tableHolds) (hloader : s.loader = some l) (hphase : l.phase ≠ .header) :
    s.words.records.length < l.toTake ∧ l.toTake ≤ 64 := (hs.phase l hloader).2 hphase

theorem loader_none (hs : s.tableHolds) (h : s.words.state ≠ .loading) : s.loader = none := by
  by_contra hsome
  exact h (hs.table.2.1.mpr (Option.isSome_iff_ne_none.mpr hsome))

theorem loading (hs : s.tableHolds) (hloader : s.loader = some l) : s.words.state = .loading :=
  hs.table.2.1.mpr (by simp [hloader])

end State.tableHolds

/-- The Word Table is as its state says when a load has ended (R6). -/
theorem State.loadEnded_table (s : State) (o : LoadOutcome) (i : BitVec 16) (h : s.words.records.length ≤ 64) :
    (s.loadEnded o i).tableFollowsState ∧ (s.loadEnded o i).loadFollowsPhase := by
  refine ⟨?_, nofun⟩
  by_cases hkeeps : o.keepsRecords = true ∧ s.words.records ≠ []
  · simp [State.tableFollowsState, State.loadEnded, hkeeps, h]
  · simp [State.tableFollowsState, State.loadEnded, hkeeps]

/-- A load that has ended leaves the port with cartridge transfers to throw away alone. -/
theorem State.loadEnded_holds {s : State} (o : LoadOutcome) (i : BitVec 16) (hrecords : s.words.records.length ≤ 64)
    (hone : s.oneRequestEach)
    (hthrown : ∀ u ∈ s.port.all, u.kind.select = some .cartridge → u.requester = .loader ∧ u.discarded = true) :
    (s.loadEnded o i).tableHolds := by
  obtain ⟨htable, hphase⟩ := s.loadEnded_table o i hrecords
  refine ⟨htable, hphase, fun u hu hkind => ?_, hone⟩
  obtain ⟨hown, hdiscarded⟩ := hthrown u hu hkind
  exact ⟨hown, fun h => absurd (hdiscarded.symm.trans h) (by simp)⟩

theorem State.mem_ask {s : State} {r : Requester} {k : TransferKind} {u : Transfer} (h : u ∈ (s.ask r k).port.all) :
    u = { requester := r, kind := k, discarded := false } ∨ u ∈ s.port.all := by
  simp only [State.ask, State.setPort_port, Port.all, List.mem_append, mem_insertTransfer] at h
  simp only [Port.all, List.mem_append]
  tauto

/-- A request for anything but the cartridge leaves the cartridge transfers as they were. -/
theorem State.tableHolds.ask {s : State} {r : Requester} {k : TransferKind} (hs : s.tableHolds)
    (hfree : s.hasTransfer r = false) (hk : k.select ≠ some .cartridge) : (s.ask r k).tableHolds := by
  refine ⟨hs.table, hs.phase, fun u hu hkind => ?_, State.oneRequestEach_ask hfree hs.one⟩
  obtain rfl | hu := State.mem_ask hu
  · exact absurd hkind hk
  · exact hs.fits u hu hkind

theorem State.tableHolds.freed {s : State} {t : Transfer} (hs : s.tableHolds) (_ : s.port.inFlight = some t) :
    s.transferEnds.tableHolds := by
  refine ⟨hs.table, hs.phase, fun u hu hkind => hs.fits u ?_ hkind, State.oneRequestEach_freed hs.one⟩
  simp only [Port.all, State.transferEnds, State.setPort_port, Option.toList_none, List.nil_append] at hu
  simp [Port.all, hu]

/-- A withdrawn request or a transfer thrown away is one of those at the port (R100). -/
theorem State.mem_withdraw {s : State} {r : Requester} {u : Transfer} (h : u ∈ (s.withdraw r).port.all) :
    u ∈ s.port.all ∧ u.requester ≠ r ∨
      ∃ x ∈ s.port.all, x.requester = r ∧ u = { x with discarded := true } := by
  simp only [State.withdraw, State.setPort_port, Port.all, List.mem_append, Option.mem_toList, Option.map_eq_some_iff,
    List.mem_filter, bne_iff_ne] at h
  simp only [Port.all, List.mem_append, Option.mem_toList]
  obtain ⟨x, hx, rfl⟩ | ⟨hu, hne⟩ := h
  · split
    · exact .inr ⟨x, .inl hx, ‹_›, rfl⟩
    · exact .inl ⟨.inl hx, ‹_›⟩
  · exact .inl ⟨.inr hu, hne⟩

theorem tableHolds_parts : Parts State.tableHolds where
  reset _ _ := ⟨(by decide : State.reset.tableFollowsState), nofun, by
    intro u hu hkind
    simp [State.resetWith, Port.all] at hu
    simp [hu, TransferKind.select] at hkind, (by decide : State.reset.oneRequestEach)⟩
  granted {s t rest} hfree hwaiting hs := by
    have hall : (s.setPort { inFlight := some t, waiting := rest }).port.all = s.port.all := by
      simp [Port.all, hfree, hwaiting]
    refine ⟨hs.table, hs.phase, fun u hu => hs.fits u (hall ▸ hu), ?_⟩
    rw [State.oneRequestEach, hall]
    exact hs.one
  voiceAsks hfree hk hs := hs.ask hfree hk
  voiceWithdraws v hs := by
    refine ⟨hs.table, hs.phase, fun u hu hkind => ?_, State.oneRequestEach_withdraw _ hs.one⟩
    obtain ⟨hu, -⟩ | ⟨x, hx, hv, rfl⟩ := State.mem_withdraw hu
    · exact hs.fits u hu hkind
    · have hown := (hs.fits x hx hkind).1
      rw [hv] at hown
      cases hown
  freed hport hs := hs.freed hport
  readerAsks {s t _} x hport hown hk hs :=
    State.tableHolds.ask (s := s.transferEnds.setStore x) (hs.freed hport)
      (hown ▸ State.hasTransfer_freed hs.one hport) hk
  loadStarts _ hnot _ hheader hs := by
    have hthrown := hs.fits_of_none (hs.loader_none hnot)
    refine ⟨by simp [State.tableFollowsState], fun l' hl' => ?_, fun u hu hkind => ?_, hs.one⟩
    · obtain rfl := Option.some.inj hl'
      exact ⟨fun _ => rfl, fun h => absurd hheader h⟩
    · obtain ⟨hown, hdiscarded⟩ := hthrown u hu hkind
      exact ⟨hown, fun h => absurd (hdiscarded.symm.trans h) (by simp)⟩
  loadAbsent _ hnot hs :=
    State.loadEnded_holds _ _ (Nat.zero_le _) hs.one (hs.fits_of_none (hs.loader_none hnot))
  loaderAsks {s l} hloader hfree hs := by
    refine ⟨hs.table, hs.phase, fun u hu hkind => ?_, State.oneRequestEach_ask hfree hs.one⟩
    obtain rfl | hu := State.mem_ask hu
    · exact ⟨rfl, fun _ => by simp [hloader]⟩
    · exact hs.fits u hu hkind
  headerTaken {s t l l'} hport hkind hkept hloader hphase hpos hle hs := by
    obtain ⟨hown, hasks⟩ := hs.asked hport (by rw [hkind]; rfl) hkept hloader
    have hheader : l.phase = .header := by
      rw [hkind, Load.asks] at hasks
      split at hasks <;> simp_all
    have hempty := (hs.phase l hloader).1 hheader
    have hloading := hs.loading hloader
    obtain ⟨hlength, -, -, hidentity, -⟩ := hs.table
    refine ⟨⟨hlength, by simp [State.transferEnds, hloading], by simp [State.transferEnds, hloading], hidentity,
      by simp [State.transferEnds, hloading]⟩, fun k hk => ?_, fun u hu h => absurd h (hs.freed_fits hport hown u hu),
      State.oneRequestEach_freed hs.one⟩
    obtain rfl : l' = k := Option.some.inj hk
    refine ⟨fun h => absurd (hphase.symm.trans h) (by simp), fun _ => ⟨?_, hle⟩⟩
    show s.words.records.length < _
    rw [hempty]
    exact hpos
  countTaken {s t l m} hport hkind hkept hloader hs := by
    have hcartridge : t.kind.select = some .cartridge := by
      cases hk : t.kind <;> simp_all [TransferKind.isCountByte, TransferKind.select]
    obtain ⟨hown, hasks⟩ := hs.asked hport hcartridge hkept hloader
    have hnot : l.phase ≠ .header := by
      intro h
      simp [Load.asks, h] at hasks
      simp [← hasks, TransferKind.isCountByte] at hkind
    have hloading := hs.loading hloader
    obtain ⟨hlength, -, -, hidentity, -⟩ := hs.table
    refine ⟨⟨hlength, by simp [State.transferEnds, hloading], by simp [State.transferEnds, hloading], hidentity,
      by simp [State.transferEnds, hloading]⟩, fun k hk => ?_, fun u hu h => absurd h (hs.freed_fits hport hown u hu),
      State.oneRequestEach_freed hs.one⟩
    obtain rfl := Option.some.inj hk
    exact ⟨nofun, fun _ => (hs.phase l hloader).2 hnot⟩
  loadEnds o i hport hkind hkept hloader hs := by
    obtain ⟨hown, -⟩ := hs.asked hport hkind hkept hloader
    exact State.loadEnded_holds _ _ hs.table.1 (State.oneRequestEach_freed hs.one)
      (fun u hu h => absurd h (hs.freed_fits hport hown u hu))
  bodyTaken {s t l m} r a hport hkind hkept hloader hphase hroom hs := by
    have hcartridge : t.kind.select = some .cartridge := by
      cases hk : t.kind <;> simp_all [TransferKind.isBody, TransferKind.select]
    obtain ⟨hown, -⟩ := hs.asked hport hcartridge hkept hloader
    obtain ⟨-, hle⟩ := hs.records_lt hloader (by simp [hphase])
    have hloading := hs.loading hloader
    obtain ⟨-, -, -, hidentity, -⟩ := hs.table
    refine ⟨⟨?_, by simp [hloading], by simp [hloading], hidentity, by simp [hloading]⟩, fun k hk => ?_,
      fun u hu h => absurd h (hs.freed_fits hport hown u hu), State.oneRequestEach_freed hs.one⟩
    · simp only [State.setLoader_words, State.setWords_words, List.length_append, List.length_singleton]
      omega
    · obtain rfl := Option.some.inj hk
      refine ⟨nofun, fun _ => ⟨?_, hle⟩⟩
      simpa using hroom
  bodyEnds {s t l m} r o i hport hkind hkept hloader hphase hs := by
    have hcartridge : t.kind.select = some .cartridge := by
      cases hk : t.kind <;> simp_all [TransferKind.isBody, TransferKind.select]
    obtain ⟨hown, -⟩ := hs.asked hport hcartridge hkept hloader
    obtain ⟨hlt, hle⟩ := hs.records_lt hloader (by simp [hphase])
    refine State.loadEnded_holds _ _ ?_ (State.oneRequestEach_freed hs.one)
      (fun u hu h => absurd h (hs.freed_fits hport hown u hu))
    simp only [State.setWords_words, List.length_append, List.length_singleton]
    omega
  cartridgeRemoved _ hs := by
    refine State.loadEnded_holds _ _ hs.table.1 (State.oneRequestEach_withdraw _ hs.one) (fun u hu hkind => ?_)
    obtain ⟨hu, hne⟩ | ⟨x, hx, hown, rfl⟩ := State.mem_withdraw hu
    · exact absurd (hs.fits u hu hkind).1 hne
    · exact ⟨hown, rfl⟩

end Sys2Proof.Machine
end

section
/-! The row stack follows the attempt (R20, R21, R24, R30), and no list loads under a target (R3, R8). -/

namespace Sys2Proof.Machine

/-! ## Taking rows back (R30, R36, R37) -/

/-- Taking back a row takes back its letter (R30). -/
theorem popRow_builtRows (table : List (Nat × Nat)) (t letters : List Nat) (x : Nat) :
    popRow (builtRows table t (letters ++ [x])) = builtRows table t letters := by
  have hpos : builtRows table t letters ≠ [] := List.ne_nil_of_length_eq_add_one (builtRows_length table t letters)
  obtain ⟨top, rows, hrows⟩ := List.exists_cons_of_ne_nil hpos
  rw [builtRows_append_singleton, hrows]
  rfl

/-- Taking back as many rows as letters are pending leaves the rows of the landed letters (R36, R37). -/
theorem popRows_builtRows (table : List (Nat × Nat)) (t landed pending : List Nat) :
    popRows pending.length (builtRows table t (landed ++ pending)) = builtRows table t landed := by
  induction pending using List.reverseRecOn with
  | nil => simp [popRows]
  | append_singleton pending x ih =>
    rw [List.length_append, List.length_singleton, popRows, ← List.append_assoc, popRow_builtRows, ih]

theorem popRows_nil (n : Nat) : popRows n [] = [] := by
  induction n with
  | zero => rfl
  | succ n ih => exact ih

/-! ## The attempt, its rows and the load in flight -/

/-- The rows follow the attempt, which keeps its bounds, and no list loads under a target. -/
def State.attemptHolds (s : State) : Prop :=
  s.rowsFollowAttempt ∧ s.attemptBounded ∧ s.loadsOutsideRounds ∧ (s.words.state = .loading ↔ s.loader.isSome = true)

theorem State.attemptHolds.rows {s : State} (hs : s.attemptHolds) : s.rowsFollowAttempt := hs.1
theorem State.attemptHolds.bounded {s : State} (hs : s.attemptHolds) : s.attemptBounded := hs.2.1
theorem State.attemptHolds.outside {s : State} (hs : s.attemptHolds) : s.loadsOutsideRounds := hs.2.2.1
theorem State.attemptHolds.loading {s : State} (hs : s.attemptHolds) :
    s.words.state = .loading ↔ s.loader.isSome = true := hs.2.2.2

theorem RoundState.holdsTarget_of_player {x : RoundState} (h : x.player = true) : x.holdsTarget = true := by
  cases x <;> simp_all [RoundState.player, RoundState.holdsTarget]

/-- Without a target there are no rows, and nothing is pending (R20, R21). -/
def State.targetless (s : State) : Prop :=
  s.attempt.target = none ∧ s.judge.rows = [] ∧ s.attempt.pending = [] ∧ s.attempt.count ≤ 20

theorem State.attemptHolds.targetless {s : State} (hs : s.attemptHolds) (hstate : s.round.state.holdsTarget = false) :
    s.targetless := by
  obtain ⟨⟨hsome, hnone, -⟩, ⟨hcount, -, hpending⟩, -, -⟩ := hs
  have htarget : s.attempt.target = none := by simpa [hstate] using hsome
  refine ⟨htarget, hnone htarget, hpending ?_, hcount⟩
  by_contra hplayer
  simp [RoundState.holdsTarget_of_player (by simpa using hplayer)] at hstate

/-- A state without a target needs none of the rest. -/
theorem State.attemptHolds_of_targetless {s : State} (hs : s.targetless) (hstate : s.round.state.holdsTarget = false)
    (hloading : s.words.state = .loading ↔ s.loader.isSome = true) : s.attemptHolds := by
  obtain ⟨htarget, hrows, hpending, hcount⟩ := hs
  exact ⟨⟨by simp [htarget, hstate], fun _ => hrows, by simp [htarget]⟩, ⟨hcount, by simp [hpending], fun _ => hpending⟩,
    fun _ => hstate, hloading⟩

/-- Where no target is held before and after, the attempt and its rows are as they were. -/
theorem State.attemptHolds.outsideRounds {s t : State} (hs : s.attemptHolds) (hstate : s.round.state.holdsTarget = false)
    (hstate' : t.round.state.holdsTarget = false) (hattempt : t.attempt = s.attempt) (hrows : t.judge.rows = s.judge.rows)
    (hloading : t.words.state = .loading ↔ t.loader.isSome = true) : t.attemptHolds := by
  refine State.attemptHolds_of_targetless ?_ hstate' hloading
  rw [State.targetless, hattempt, hrows]
  exact hs.targetless hstate

/-- The target's letters are read from the target and the Word Table alone (R21). -/
theorem State.targetLetters_congr {s t : State} (htarget : t.attempt.target = s.attempt.target) (hwords : t.words = s.words) :
    t.targetLetters = s.targetLetters := by
  unfold State.targetLetters State.wordAt
  rw [htarget, hwords]

/-- The same target held in another state of the round. -/
theorem State.attemptHolds.inRound {s t : State} (hs : s.attemptHolds)
    (htarget : t.round.state.holdsTarget = s.round.state.holdsTarget) (hplayer : t.round.state.player = s.round.state.player)
    (hattempt : t.attempt = s.attempt) (hjudge : t.judge = s.judge) (hwords : t.words = s.words)
    (hloader : t.loader = s.loader) : t.attemptHolds := by
  have hletters := State.targetLetters_congr (congrArg Attempt.target hattempt) hwords
  unfold State.attemptHolds State.rowsFollowAttempt State.attemptBounded State.loadsOutsideRounds
  rw [htarget, hplayer, hattempt, hjudge, hwords, hloader, hletters]
  exact hs

/-- In a round with a target, the letters and the rows change together. -/
theorem State.attemptHolds.letters {s t : State} {a : Attempt} (hs : s.attemptHolds)
    (htarget : s.round.state.holdsTarget = true) (hstate : t.round.state = s.round.state) (hattempt : t.attempt = a)
    (hsame : a.target = s.attempt.target) (hpairs : t.judge.pairs = s.judge.pairs) (hwords : t.words = s.words)
    (hloader : t.loader = s.loader) (hrows : t.judge.rows = builtRows s.judge.pairs s.targetLetters a.letters)
    (hcount : a.count ≤ 20) (hthree : a.pending.length ≤ 3) (hplayer : s.round.state.player = false → a.pending = []) :
    t.attemptHolds := by
  subst hattempt
  have hletters := State.targetLetters_congr hsame hwords
  obtain ⟨⟨hsome, -, -⟩, -, houtside, hloading⟩ := hs
  refine ⟨⟨by rw [hsame, hstate, hsome], fun hnone => ?_, fun _ => by rw [hrows, hpairs, hletters]⟩,
    ⟨hcount, hthree, hstate ▸ hplayer⟩, ?_, ?_⟩
  · rw [htarget, Option.isSome_iff_ne_none] at hsome
    exact absurd (hsame ▸ hnone) hsome
  · rw [State.loadsOutsideRounds, hwords, hstate]
    exact houtside
  · rw [hwords, hloader]
    exact hloading

theorem State.attemptHolds.built {s : State} (hs : s.attemptHolds) (htarget : s.round.state.holdsTarget = true) :
    s.judge.rows = builtRows s.judge.pairs s.targetLetters s.attempt.letters := by
  obtain ⟨⟨hsome, -, hbuilt⟩, -, -, -⟩ := hs
  exact hbuilt (by rw [hsome, htarget])

theorem State.attemptHolds.pendingNone {s : State} (hs : s.attemptHolds) (hplayer : s.round.state.player = false) :
    s.attempt.pending = [] := hs.bounded.2.2 hplayer

/-- A push and its letter keep the stack the one that the letters build (R29, R32). -/
theorem State.attemptHolds.nextRow {s : State} (hs : s.attemptHolds) (htarget : s.round.state.holdsTarget = true) (x : Nat) :
    s.nextRow x :: s.judge.rows = builtRows s.judge.pairs s.targetLetters (s.attempt.letters ++ [x]) := by
  rw [builtRows_append_singleton, State.nextRow, hs.built htarget]

theorem State.attemptHolds_takeTarget {s : State} (hs : s.attemptHolds) {kind : RoundKind} {w : Nat} {tag : Option Nat}
    {timer : Timer} {x : RoundState} (hx : x.holdsTarget = true) (hwords : s.words.state ≠ .loading) :
    (s.opened kind w tag timer x).attemptHolds := by
  refine ⟨⟨hx.symm, nofun, fun _ => ?_⟩, ⟨Nat.zero_le _, Nat.zero_le _, fun _ => rfl⟩, fun h => absurd h hwords,
    hs.loading⟩
  rfl

theorem attemptHolds_parts : Parts State.attemptHolds where
  reset _ _ := (by decide : State.reset.rowsFollowAttempt ∧ State.reset.attemptBounded ∧ State.reset.loadsOutsideRounds ∧
    (State.reset.words.state = .loading ↔ State.reset.loader.isSome = true))
  promptEndsSolo hstate hs :=
    hs.inRound (by simp [hstate, RoundState.holdsTarget]) (by simp [hstate, RoundState.player]) rfl rfl rfl rfl
  promptEndsCircle hstate hs :=
    hs.inRound (by simp [hstate, RoundState.holdsTarget]) (by simp [hstate, RoundState.player]) rfl rfl rfl rfl
  reviewEnds _ hs := State.attemptHolds_of_targetless ⟨rfl, rfl, rfl, Nat.zero_le _⟩ rfl hs.loading
  toIdle hs := State.attemptHolds_of_targetless ⟨rfl, rfl, rfl, Nat.zero_le _⟩ rfl hs.loading
  watches _ _ _ hs := State.attemptHolds_of_targetless ⟨rfl, rfl, rfl, Nat.zero_le _⟩ rfl hs.loading
  restarts hidle hs := State.attemptHolds_of_targetless ⟨rfl, rfl, rfl, Nat.zero_le _⟩ rfl hs.loading
  deals _ _ hidle hs := hs.outsideRounds (by simp [hidle, RoundState.holdsTarget]) rfl rfl rfl hs.loading
  loadStarts hidle _ _ _ hs :=
    hs.outsideRounds (by simp [hidle, RoundState.holdsTarget]) (by simp [hidle, RoundState.holdsTarget]) rfl rfl (by simp)
  loadAbsent hidle _ hs :=
    hs.outsideRounds (by simp [hidle, RoundState.holdsTarget]) (by simp [State.loadEnded, hidle, RoundState.holdsTarget])
      rfl rfl (by simp [State.loadEnded, LoadOutcome.keepsRecords])
  headerTaken _ _ _ hloader _ _ _ hs := ⟨hs.rows, hs.bounded, hs.outside, by simp [hs.loading, hloader]⟩
  countTaken _ _ _ hloader hs := ⟨hs.rows, hs.bounded, hs.outside, by simp [hs.loading, hloader]⟩
  loadEnds o i _ _ _ hloader hs := by
    have hstate := hs.outside (hs.loading.mpr (by simp [hloader]))
    refine hs.outsideRounds hstate hstate rfl rfl ?_
    simp only [State.loadEnded]
    split <;> simp
  bodyTaken r a _ _ _ hloader _ _ hs := by
    have hstate := hs.outside (hs.loading.mpr (by simp [hloader]))
    exact hs.outsideRounds hstate hstate rfl rfl (by simp [hs.loading, hloader])
  bodyEnds r o i _ _ _ hloader _ hs := by
    have hstate := hs.outside (hs.loading.mpr (by simp [hloader]))
    refine hs.outsideRounds hstate hstate rfl rfl ?_
    simp only [State.loadEnded]
    split <;> simp
  cartridgeRemoved hloading hs := by
    have hstate := hs.outside hloading
    exact hs.outsideRounds hstate hstate rfl rfl (by simp [State.loadEnded, LoadOutcome.keepsRecords])
  setup args offered hstate hs := by
    have htarget : ∀ {x : RoundState}, x = .idle ∨ x = .circleDealing → x.holdsTarget = false := by rintro _ (rfl | rfl) <;> rfl
    exact hs.outsideRounds (htarget hstate) (htarget hstate) rfl rfl hs.loading
  opensSolo w _ hwords hs := State.attemptHolds_takeTarget hs rfl hwords
  opensCircle w tag _ hwords hs := State.attemptHolds_takeTarget hs rfl hwords
  reviews hopen hs :=
    hs.inRound (by simp [hopen, RoundState.holdsTarget]) (by simp [hopen, RoundState.player]) rfl rfl rfl rfl
  landsSolo {s} x hopen hroom hs := by
    have htarget : s.round.state.holdsTarget = true := by simp [hopen, RoundState.holdsTarget]
    have hpending := hs.pendingNone (by simp [hopen, RoundState.player])
    refine hs.letters (a := { s.attempt with landed := s.attempt.landed ++ [x] }) htarget rfl rfl rfl rfl rfl rfl
      ?_ ?_ hs.bounded.2.1 hs.bounded.2.2
    · show s.nextRow x :: s.judge.rows = _
      simpa [Attempt.letters, hpending] using hs.nextRow htarget x
    · simpa [Attempt.count, hpending] using hroom
  erases {s} hopen hne hs := by
    have htarget : s.round.state.holdsTarget = true := by simp [hopen, RoundState.holdsTarget]
    have hpending := hs.pendingNone (by simp [hopen, RoundState.player])
    have hcount := hs.bounded.1
    refine hs.letters (a := { s.attempt with landed := s.attempt.landed.dropLast }) htarget rfl rfl rfl rfl rfl rfl
      ?_ ?_ hs.bounded.2.1 hs.bounded.2.2
    · show popRow s.judge.rows = _
      obtain ⟨landed, x, hlanded⟩ : ∃ landed x, s.attempt.landed = landed ++ [x] :=
        ⟨_, _, (List.dropLast_append_getLast hne).symm⟩
      simp [hs.built htarget, Attempt.letters, hpending, hlanded, popRow_builtRows]
    · simp only [Attempt.count, hpending, List.length_dropLast] at hcount ⊢
      omega
  keepsPending {s} x hplayer hroom hpending hs := by
    have htarget : s.round.state.holdsTarget = true := by simp [hplayer, RoundState.holdsTarget]
    refine hs.letters (a := { s.attempt with pending := s.attempt.pending ++ [x] }) htarget rfl rfl rfl rfl rfl rfl
      ?_ ?_ ?_ (fun h => ?_)
    · show s.nextRow x :: s.judge.rows = _
      simpa [Attempt.letters] using hs.nextRow htarget x
    · simp only [Attempt.count, List.length_append, List.length_singleton] at hroom ⊢
      omega
    · simpa using hpending
    · simp [hplayer, RoundState.player] at h
  removesPending {s} hne hs := by
    have hplayer : s.round.state.player = true := by
      by_contra hplayer
      exact hne (hs.pendingNone (by simpa using hplayer))
    have htarget := RoundState.holdsTarget_of_player hplayer
    refine hs.letters (a := { s.attempt with pending := [] }) htarget rfl rfl rfl rfl rfl rfl
      ?_ ?_ (Nat.zero_le _) (fun _ => rfl)
    · show popRows _ s.judge.rows = _
      simp [hs.built htarget, Attempt.letters, popRows_builtRows]
    · exact le_trans (Nat.le_add_right _ _) hs.bounded.1
  landsOwn {s x rest} hopen hpending hs := by
    have hplayer : s.round.state.player = true := by
      by_contra hplayer
      simp [hs.pendingNone (by simpa using hplayer)] at hpending
    have htarget := RoundState.holdsTarget_of_player hplayer
    obtain ⟨hcount, hthree, -⟩ := hs.bounded
    rw [hpending, List.length_cons] at hthree
    refine hs.letters (a := { s.attempt with landed := s.attempt.landed ++ [x], pending := rest }) htarget rfl rfl rfl rfl rfl rfl
      ?_ ?_ (le_trans (Nat.le_succ _) hthree) (fun h => ?_)
    · show s.judge.rows = _
      simp [hs.built htarget, Attempt.letters, hpending]
    · simp only [Attempt.count, hpending, List.length_cons, List.length_append, List.length_nil] at hcount ⊢
      omega
    · simp [hplayer] at h
  landsPeer {s} x hplayer hroom hpending hs := by
    have htarget := RoundState.holdsTarget_of_player hplayer
    refine hs.letters (a := { s.attempt with landed := s.attempt.landed ++ [x] }) htarget rfl rfl rfl rfl rfl rfl
      ?_ ?_ hs.bounded.2.1 hs.bounded.2.2
    · show s.nextRow x :: s.judge.rows = _
      simpa [Attempt.letters, hpending] using hs.nextRow htarget x
    · simpa [Attempt.count, hpending] using hroom
  landsWatched {s} x hwatches hroom hs := by
    obtain ⟨htarget, hrows, hpending, -⟩ := hs.targetless (by simp [hwatches, RoundState.holdsTarget])
    refine State.attemptHolds_of_targetless ⟨htarget, hrows, hpending, ?_⟩ ?_ hs.loading
    · show (s.attempt.landed ++ [x]).length + s.attempt.pending.length ≤ 20
      simpa [hpending] using hroom
    · show s.round.state.holdsTarget = false
      simp [hwatches, RoundState.holdsTarget]
  becomesSpectator {s} hplayer hpending hs :=
    State.attemptHolds_of_targetless ⟨rfl, rfl, hpending, hs.bounded.1⟩ rfl hs.loading

/-! ## The loss of the word (R38, R166) -/

/-- A station without a target keeps none while its voices speak. -/
theorem targetless_speech :
    KeptBySpeech (fun s => s.targetless ∧ (s.words.state = .loading ↔ s.loader.isSome = true)) := by
  refine SpeechParts.kept ?_ (fun v _ h => by cases v <;> exact h)
  exact { reviewEnds := fun _ h => ⟨⟨rfl, rfl, rfl, Nat.zero_le _⟩, h.2⟩ }

theorem State.attemptHolds_loseWord {s : State} (hs : s.attemptHolds) (hopen : s.round.state.circleOpen = true) :
    s.loseWord.attemptHolds := by
  have hwatching : ∀ {u : State}, u.round.state.circleOpen = true → u.round.state.player = false →
      u.round.state.holdsTarget = false := by
    intro u hopen hplayer
    cases hstate : u.round.state <;> simp_all [RoundState.circleOpen, RoundState.player, RoundState.holdsTarget]
  refine (State.loseWord_of (P := fun u => u.attemptHolds ∧ u.round.state.circleOpen = true)
    (Q := fun u => u.targetless ∧ (u.words.state = .loading ↔ u.loader.isSome = true)) targetless_speech
    (fun hplayer h => ⟨h.1.targetless (hwatching h.2 hplayer), h.1.loading⟩) (fun _ h => ?_)
    (fun h => ⟨State.attemptHolds_of_targetless h.1 rfl h.2, rfl⟩) ⟨hs, hopen⟩).1
  have hkept : s.removeRoundFrames.removePending.attemptHolds := by
    by_cases hpending : s.attempt.pending = []
    · rw [State.removePending_of_eq (s := s.removeRoundFrames) hpending]
      exact hs
    · rw [State.removePending_of_ne (s := s.removeRoundFrames) hpending]
      exact attemptHolds_parts.removesPending (s := s.removeRoundFrames) hpending hs
  have hnone : s.removeRoundFrames.removePending.attempt.pending = [] := by
    by_cases hpending : s.attempt.pending = []
    · rwa [State.removePending_of_eq (s := s.removeRoundFrames) hpending]
    · rw [State.removePending_of_ne (s := s.removeRoundFrames) hpending]
      rfl
  exact ⟨⟨rfl, rfl, hnone, hkept.bounded.1⟩, hkept.loading⟩

/-- Settles O59: the Word Table and the cartridge transfers by the load's changes, and the attempt with its rows by every
change of the round. -/
theorem rowsFollowAttemptAtEveryStep : Obligations.RowsFollowAttemptAtEveryStep := by
  intro s t ht hrows hbounded htable hphase houtside hone hfits
  obtain ⟨htable', hphase', hfits', -⟩ := tableHolds_parts.step ⟨htable, hphase, hfits, hone⟩ ht
  have hkept : Kept State.attemptHolds :=
    { toParts := attemptHolds_parts
      toKeptBySpeech := attemptHolds_parts.toSpeechParts.kept (fun v _ h => by cases v <;> exact h) }
  have hattempt : t.attemptHolds := by
    obtain h | ⟨b, -, -, hu, -, -, -, -⟩ | ⟨hu, hopen⟩ := hkept.step ⟨hrows, hbounded, houtside, htable.2.1⟩ ht
    · exact h
    · exact hkept.enterDoze (fun _ hw => hw) id b hu
    · exact hkept.grant (State.attemptHolds_loseWord hu hopen)
  exact ⟨hattempt.rows, hattempt.bounded, htable', hphase', hattempt.outside, hfits'⟩

end Sys2Proof.Machine
end

section
/-! The step itself, RESET, and the invariants right after it (R147, log 1, log 10, log 11). -/

namespace Sys2Proof.Machine

/-- Settles O1: both cases are those of the step's definition. -/
theorem stepTakesFrontCommand : Obligations.StepTakesFrontCommand := by
  refine ⟨fun c rest s h => ?_, fun s h => ?_⟩
  · rw [step, h]
  · rw [step, h]

/-- Settles O3: RESET answers the reset state with the waiting commands put back. -/
theorem resetGivesResetValues : Obligations.ResetGivesResetValues := by
  intro l s
  exact ⟨_, rfl, rfl, rfl, rfl, rfl, rfl, rfl, rfl, rfl, rfl, rfl, rfl, rfl, rfl, rfl, rfl, rfl, rfl, rfl, rfl, rfl, rfl,
    rfl, rfl, rfl, rfl⟩

/-- Settles O55: each invariant that is proved by changes has RESET among them, and the others are finite facts about the
reset state, in which no laptop number is read. -/
theorem invariantsHoldAtReset : Obligations.InvariantsHoldAtReset := by
  intro l
  obtain ⟨htable, hphase, hfits, hone⟩ := tableHolds_parts.reset l []
  obtain ⟨hrows, hbounded, houtside, -⟩ := attemptHolds_parts.reset l []
  have hmarks : (State.resetWith l).marksNumbered := nofun
  exact ⟨countsInRange_parts.reset l [], outputInRange_parts.reset l [], setupInRange_parts.reset l [],
    pairsFormed_parts.reset l [], windowsInRange_parts.reset l [], progressInRange_parts.reset l [],
    (by decide : State.reset.withinCapacity), scannerFormed_parts.reset l [], (by decide : State.reset.transmitLimited),
    rosterFormed_parts.reset l [], noOwnEntry_parts.reset l [], (by decide : State.reset.quietVoicesEmpty),
    (by decide : State.reset.stacksOrdered), hone, (portOrdered_parts.reset l []).2,
    (by decide : State.reset.portSettled), hrows, hbounded, htable, hphase, houtside, hfits, hmarks,
    factsFollowState_parts.reset l [], (by decide : State.reset.dozeIsQuiet), (by decide : State.reset.goesToDozeIdle)⟩

end Sys2Proof.Machine
end

section
/-! Every command answers a next state and leaves the commands that wait as they are (log 1, log 3). -/

namespace Sys2Proof.Machine

/-- A next state in which the same commands wait. -/
def Completes (s : State) (o : Host.Outcome State Fault Refusal) : Prop := ∃ t : State, o = .next t ∧ t.pending = s.pending

theorem Completes.next {s t : State} (h : t.pending = s.pending) : Completes s (.next t) := ⟨t, rfl, h⟩

theorem Completes.idle (s : State) : Completes s (.next s) := .next rfl

theorem frameEvent_completes (s : State) {act : State → State} (h : ∀ u, (act u).pending = u.pending) :
    Completes s (frameEvent s act) := by
  unfold frameEvent
  split
  · exact .next (by simp [h])
  · exact .next (by simp)
  all_goals exact .idle s

theorem request_completes (s : State) {run : State → State × Reply} (h : ∀ u, (run u).1.pending = u.pending) :
    Completes s (request s run) := by
  refine frameEvent_completes s (fun u => ?_)
  unfold State.takeRequest
  split <;> simp [h]

theorem keyEvent_completes (s : State) {fits : Nat → Bool} {use : Nat → State → State}
    (h : ∀ k u, (use k u).pending = u.pending) : Completes s (keyEvent s fits use) := by
  have hdrop : s.dropKey.pending = s.pending := by
    unfold State.dropKey
    dsimp only
    split <;> rfl
  obtain ⟨k, -, -, heq⟩ | ⟨-, heq⟩ := keyEvent_cases s fits use <;> rw [heq]
  · exact .next (by simp [h, hdrop])
  · exact .idle s

theorem transferEvent_completes (s : State) {fits : TransferKind → Bool} {hand : Transfer → State → State}
    (h : ∀ x u, (hand x u).pending = u.pending) : Completes s (transferEvent s fits hand) := by
  obtain ⟨x, -, -, heq⟩ | ⟨-, heq⟩ := transferEvent_cases s fits hand <;> rw [heq]
  · exact .next (by simp [h])
  · exact .idle s

/-! ## Operations whose frame is not stated elsewhere -/

variable (s : State)

@[simp] theorem State.loaderAsks_pending : s.loaderAsks.pending = s.pending := by
  unfold State.loaderAsks
  (repeat' split) <;> simp

@[simp] theorem State.readerAsks_pending : s.readerAsks.pending = s.pending := by
  unfold State.readerAsks
  (repeat' split) <;> simp

@[simp] theorem State.endLoad_pending (o : LoadOutcome) (i : BitVec 16) : (s.endLoad o i).pending = s.pending := by
  simp [State.endLoad_eq, State.loadEnded]

@[simp] theorem State.leaveRound_pending : s.leaveRound.pending = s.pending := by
  unfold State.leaveRound
  split <;> simp

theorem State.startWord_pending {w : Nat} {u : State} {p : Nat} (h : s.startWord w = .ok (u, p)) : u.pending = s.pending := by
  unfold State.startWord at h
  (repeat' split at h) <;> cases h
  · rfl
  · rfl

@[simp] theorem State.loaderTakes_pending (x : Transfer) {take : Load → State → State}
    (h : ∀ l, (take l s).pending = s.pending) : (s.loaderTakes x take).pending = s.pending := by
  unfold State.loaderTakes
  (repeat' split) <;> simp [h]

@[simp] theorem State.voiceTakes_pending (v : VoiceId) (x : Transfer) (take : Context → Context) :
    (s.voiceTakes v x take).pending = s.pending := by
  unfold State.voiceTakes
  (repeat' split) <;> simp

@[simp] theorem State.readerTakesEntry_pending (a : BitVec 24) : (s.readerTakesEntry a).pending = s.pending := by
  unfold State.readerTakesEntry State.writeLetter
  (repeat' split) <;> simp

@[simp] theorem State.readerTakesDescriptor_pending (d : Descriptor) : (s.readerTakesDescriptor d).pending = s.pending := by
  unfold State.readerTakesDescriptor State.writeLetter
  split <;> simp

@[simp] theorem State.renderFrame_pending (v : VoiceId) : (s.renderFrame v).pending = s.pending := by
  unfold State.renderFrame
  dsimp only
  split
  · rfl
  · simp
  · split <;> simp

@[simp] theorem State.preempt_pending (v : VoiceId) (c : Context) (e : Entry) : (s.preempt v c e).pending = s.pending := by
  unfold State.preempt
  dsimp only
  rw [(State.startEntry_keeps _ _ _).1]
  exact foldl_holds _ (fun u => u.pending = s.pending) (fun u d hu => by simpa using hu) _ _ (by simp)

@[simp] theorem State.boundary_pending (v : VoiceId) : (s.boundary v).pending = s.pending := by
  obtain ⟨-, heq⟩ | ⟨c, o, -, -, -, heq⟩ | ⟨c, e, -, -, -, heq⟩ | ⟨c, -, heq⟩ := s.boundary_cases v <;> rw [heq] <;> simp

@[simp] theorem unusedKey_pending (k : Nat) : (unusedKey k s).pending = s.pending := by
  unfold unusedKey State.forwardKey
  (repeat' split) <;> simp

@[simp] theorem State.takeLetter_pending (own : Bool) (l t p x c : Nat) : (s.takeLetter own l t p x c).pending = s.pending := by
  unfold State.takeLetter
  (repeat' split) <;> simp

@[simp] theorem State.takeClose_pending (t n c : Nat) : (s.takeClose t n c).pending = s.pending := by
  unfold State.takeClose
  (repeat' split) <;> simp

@[simp] theorem State.circleExpires_pending : s.circleExpires.pending = s.pending := by
  unfold State.circleExpires
  (repeat' split) <;> simp

@[simp] theorem State.roundTroubled_pending : s.roundTroubled.pending = s.pending := by
  unfold State.roundTroubled
  (repeat' split) <;> simp

@[simp] theorem State.discard_pending (cause : DiscardCause) : (s.discard cause).pending = s.pending := by
  unfold State.discard State.becomeTroubled
  dsimp only
  split <;> simp

@[simp] theorem State.replyEnds_pending (b : Bool) : (s.replyEnds b).pending = s.pending := by
  unfold State.replyEnds State.statusSent State.enterDoze State.wake
  dsimp only
  (repeat' split) <;> simp

theorem State.scan_pending (down : BitVec 64) : (s.scan down).pending = s.pending := by
  refine foldl_holds _ (fun u => u.pending = s.pending) (fun u k hu => ?_) _ _ rfl
  unfold State.considerKey State.offerKey
  (repeat' split) <;> simpa using hu

/-! ## Every command -/

theorem exec_completes (c : Instr) (s : State) : Completes s (exec c s) := by
  cases c with
  | reset l => exact .next rfl
  | setup args | setupStage args =>
    refine request_completes s (fun u => ?_)
    unfold setupRequest commitSetup stageSetup
    dsimp only
    (repeat' split) <;> rfl
  | loadList b args =>
    refine request_completes s (fun u => ?_)
    unfold loadListRequest
    dsimp only
    (repeat' split) <;> simp
  | startSolo args =>
    refine request_completes s (fun u => ?_)
    unfold startSoloRequest
    dsimp only
    (repeat' split)
    · rfl
    · rfl
    · simp [u.startWord_pending ‹_›]
  | startCircle args =>
    refine request_completes s (fun u => ?_)
    unfold startCircleRequest State.beginDeal
    dsimp only
    (repeat' split)
    · rfl
    · rfl
    · simp [u.startWord_pending ‹_›]
  | endRound args =>
    refine request_completes s (fun u => ?_)
    unfold endRoundRequest State.endRound
    dsimp only
    split <;> simp
  | say args => exact request_completes s (fun u => by simp [sayRequest])
  | spell args =>
    refine request_completes s (fun u => ?_)
    unfold spellRequest
    dsimp only
    split
    · rfl
    · have hcomposed := (u.compose_keeps (((u.wordAt (byteAt args 0)).map (·.letters)).getD [])).1
      (repeat' split) <;> simp_all
  | stop args =>
    refine request_completes s (fun u => ?_)
    unfold stopRequest State.stopNamed
    dsimp only
    split <;> simp
  | status args | progress args | exclude args | roster args | doze args | unknownRequest code args =>
    exact request_completes s (fun u => rfl)
  | restart args => exact request_completes s (fun u => by simp [restartRequest, State.restart])
  | headerTransfer bytes =>
    simp only [exec, execHeaderTransfer]
    refine transferEvent_completes s (fun x u => u.loaderTakes_pending x (fun l => ?_))
    unfold takeHeader
    split <;> simp
  | countByteTransfer count =>
    refine transferEvent_completes s (fun x u => u.loaderTakes_pending x (fun l => ?_))
    unfold takeCountByte
    split <;> simp
  | bodyTransfer bytes =>
    refine transferEvent_completes s (fun x u => u.loaderTakes_pending x (fun l => ?_))
    unfold takeBody
    dsimp only
    (repeat' split) <;> simp
  | cartridgeRemoved =>
    simp only [exec, execCartridgeRemoved]
    split
    · exact .next (by simp)
    · exact .idle s
  | phraseDirectoryFetch bytes =>
    refine transferEvent_completes s (fun x u => ?_)
    unfold handPhraseEntry
    split <;> simp
  | segmentDirectoryFetch bytes =>
    refine transferEvent_completes s (fun x u => ?_)
    unfold handSegment
    split <;> simp
  | romDescriptorFetch bytes =>
    refine transferEvent_completes s (fun x u => ?_)
    unfold handDescriptor
    split <;> simp
  | ramDescriptorFetch =>
    simp only [exec, execRamDescriptorFetch]
    refine transferEvent_completes s (fun x u => ?_)
    unfold handSlot
    split <;> simp
  | frameFetch bytes =>
    refine transferEvent_completes s (fun x u => ?_)
    unfold handFrame State.frameArrives
    (repeat' split) <;> simp
  | frameBoundary v => exact .next (by simp)
  | samplePeriod a b =>
    refine .next ?_
    unfold State.mix
    dsimp only
    split <;> rfl
  | scanPass down =>
    simp only [exec, execScanPass]
    split
    · exact .idle s
    all_goals exact .next (s.scan_pending down)
  | letterKey =>
    refine keyEvent_completes s (fun k u => ?_)
    unfold useLetter
    split <;> simp
  | eraseKey =>
    refine keyEvent_completes s (fun k u => ?_)
    unfold useErase
    split <;> simp
  | doneKey =>
    refine keyEvent_completes s (fun k u => ?_)
    unfold useDone
    split <;> simp
  | repeatKey =>
    refine keyEvent_completes s (fun k u => ?_)
    unfold useRepeat
    split <;> simp
  | hintKey =>
    refine keyEvent_completes s (fun k u => ?_)
    unfold useHint
    split <;> simp
  | otherKey => exact keyEvent_completes s (fun k u => by simp)
  | roundTimerExpiry =>
    simp only [exec, execRoundTimerExpiry]
    split
    · exact .next (by simp)
    · exact .idle s
  | circleTimerExpiry =>
    simp only [exec, execCircleTimerExpiry]
    split
    · exact .next (by simp)
    · exact .idle s
  | beatTick =>
    simp only [exec, execBeatTick, State.tick]
    split
    · exact .next (by split <;> simp)
    all_goals exact .idle s
  | rosterAgeOut =>
    simp only [exec, execRosterAgeOut]
    split
    · exact .next (by simp)
    all_goals exact .idle s
  | keyWake | linkWake =>
    simp only [exec, execKeyWake, execLinkWake]
    split
    · exact .next rfl
    all_goals exact .idle s
  | settleEnd =>
    simp only [exec, execSettleEnd]
    split
    · exact .next (by simp [State.settled])
    all_goals exact .idle s
  | openingLow =>
    simp only [exec, execOpeningLow, State.offerFrame]
    split
    · exact .next (by split <;> rfl)
    · exact .next rfl
    all_goals exact .idle s
  | glitch =>
    simp only [exec, execGlitch]
    (repeat' split)
    · exact .next rfl
    all_goals exact .idle s
  | quietGap cells =>
    simp only [exec, execQuietGap]
    (repeat' split)
    · exact .next rfl
    · exact .next rfl
    all_goals exact .idle s
  | lowInGapWait =>
    simp only [exec, execLowInGapWait]
    split
    · exact .next rfl
    all_goals exact .idle s
  | frameOffer cell =>
    simp only [exec, execFrameOffer, State.offerFrame]
    split
    · exact .next (by split <;> rfl)
    · split
      · exact .next (by split <;> rfl)
      · exact .idle s
    · exact .idle s
  | arbitrationLoss cell =>
    simp only [exec, execArbitrationLoss]
    (repeat' split)
    · exact .next rfl
    · exact .next rfl
    all_goals exact .idle s
  | frameDiscard cause =>
    simp only [exec, execFrameDiscard]
    exact frameEvent_completes s (fun u => by simp)
  | beatFrame p l i a b =>
    simp only [exec, execBeatFrame]
    refine frameEvent_completes s (fun u => ?_)
    unfold State.takePartFrame State.noteIdentity
    dsimp only
    split <;> simp
  | dealFrame p l i w t n =>
    simp only [exec, execDealFrame]
    refine frameEvent_completes s (fun u => ?_)
    unfold State.takePartFrame State.countDeal
    dsimp only
    split <;> simp
  | letterFrame p l t n x c =>
    simp only [exec, execLetterFrame]
    exact frameEvent_completes s (fun u => by simp [State.takePartFrame])
  | closeFrame p l t n c =>
    simp only [exec, execCloseFrame]
    exact frameEvent_completes s (fun u => by simp [State.takePartFrame])
  | replyFrame b =>
    simp only [exec, execReplyFrame]
    split
    · exact frameEvent_completes s (fun u => by simp)
    · exact .idle s
  | reportFrame =>
    simp only [exec, execReportFrame]
    split
    · exact frameEvent_completes s (fun u => by simp)
    · exact .idle s
  | otherFrame p k body =>
    simp only [exec, execOtherFrame]
    refine frameEvent_completes s (fun u => ?_)
    split <;> simp

/-- Settles O2, command by command, each by what its operations leave as it is. -/
theorem everyCommandCompletes : Obligations.EveryCommandCompletes := exec_completes

end Sys2Proof.Machine
end

section
/-! Requests: the answer slot full, the requests that only read, SETUP, and the confusable-pair table (R22, R172 to R174). -/

namespace Sys2Proof.Machine

/-! ## The confusable-pair table (R22) -/

theorem formPairs_append (offered : List (Nat × Nat)) (p : Nat × Nat) :
    formPairs (offered ++ [p]) = offerPair (formPairs offered) p := by
  rw [formPairs, List.foldl_append]
  rfl

theorem clamped_eq_false_iff {low high n : Nat} : clamped low high n = false ↔ clamp low high n = n := by
  simp [clamped]

/-- Every pair of the table is an offered one, clamped. -/
theorem formPairs_offered (offered : List (Nat × Nat)) :
    ∀ p ∈ (formPairs offered).1, ∃ q ∈ offered, p = (clamp 1 26 q.1, clamp 1 26 q.2) := by
  induction offered using List.reverseRecOn with
  | nil => simp [formPairs]
  | append_singleton offered q ih =>
    intro p hp
    rw [formPairs_append] at hp
    obtain ⟨-, heq⟩ | ⟨-, -, -, heq⟩ := offerPair_cases (formPairs offered) q <;> rw [heq] at hp
    · obtain ⟨q', hq', rfl⟩ := ih p hp
      exact ⟨q', by simp [hq'], rfl⟩
    · obtain hp | hp := List.mem_append.mp hp
      · obtain ⟨q', hq', rfl⟩ := ih p hp
        exact ⟨q', by simp [hq'], rfl⟩
      · exact ⟨q, by simp, List.mem_singleton.mp hp⟩

/-- While the table is not full, every offered pair of two letters is in it. -/
theorem formPairs_joined (offered : List (Nat × Nat)) (hroom : (formPairs offered).1.length < 12) :
    ∀ q ∈ offered, clamp 1 26 q.1 ≠ clamp 1 26 q.2 →
      pairIn (formPairs offered).1 (clamp 1 26 q.1) (clamp 1 26 q.2) = true := by
  induction offered using List.reverseRecOn with
  | nil => simp
  | append_singleton offered p ih =>
    intro q hq hdiffer
    rw [formPairs_append] at hroom ⊢
    rw [List.mem_append, List.mem_singleton] at hq
    obtain ⟨hdropped, heq⟩ | ⟨-, -, -, heq⟩ := offerPair_cases (formPairs offered) p <;> rw [heq] at hroom ⊢
    · obtain hq | rfl := hq
      · exact ih hroom q hq hdiffer
      · obtain hsame | hthere | hfull := hdropped
        · exact absurd hsame hdiffer
        · exact hthere
        · exact absurd hroom (Nat.not_lt.mpr hfull)
    · rw [pairIn_iff]
      obtain hq | rfl := hq
      · have hbefore := ih (by simp at hroom; omega) q hq hdiffer
        rw [pairIn_iff] at hbefore
        exact hbefore.imp (List.mem_append_left _) (List.mem_append_left _)
      · simp

/-- The table is as offered exactly when no letter was clamped and no pair dropped. -/
theorem formPairs_unadjusted (offered : List (Nat × Nat)) :
    (formPairs offered).1.length ≤ offered.length ∧ ((formPairs offered).2 = false ↔ (formPairs offered).1 = offered) := by
  induction offered using List.reverseRecOn with
  | nil => simp [formPairs]
  | append_singleton offered p ih =>
    obtain ⟨hlength, hsame⟩ := ih
    rw [formPairs_append]
    obtain ⟨-, heq⟩ | ⟨-, -, -, heq⟩ := offerPair_cases (formPairs offered) p <;> rw [heq]
    · refine ⟨by simp; omega, ⟨nofun, fun h => ?_⟩⟩
      have := congrArg List.length h
      simp at this
      omega
    · refine ⟨by simpa using hlength, ?_⟩
      rw [Bool.or_eq_false_iff, Bool.or_eq_false_iff, hsame, clamped_eq_false_iff, clamped_eq_false_iff]
      constructor
      · rintro ⟨⟨htable, hfirst⟩, hsecond⟩
        rw [htable, hfirst, hsecond]
      · intro h
        obtain ⟨htable, hpair⟩ := List.append_inj' h rfl
        have hpair := List.singleton_inj.mp hpair
        exact ⟨⟨htable, congrArg Prod.fst hpair⟩, congrArg Prod.snd hpair⟩

/-- Settles O7, by induction on the offered pairs, the last one first. -/
theorem pairTableFormed : Obligations.PairTableFormed := by
  refine ⟨fun offered => ?_, fun table x y => ⟨?_, ?_⟩⟩
  · obtain ⟨hlength, hletters, hpairs⟩ := formPairs_formed offered
    refine ⟨hlength, fun p hp => ?_, hpairs, fun q hq hdiffer hroom => formPairs_joined offered hroom q hq hdiffer,
      (formPairs_unadjusted offered).2⟩
    obtain ⟨q, hq, hpq⟩ := formPairs_offered offered p hp
    exact ⟨q, hq, hpq, hletters p hp⟩
  · simp only [sub, pairIn_iff]
  · simp only [sub, pairIn_iff, eq_comm (a := x), or_comm]

/-! ## Posted records (R183) -/

theorem State.post_of_room {s : State} (h : s.reports.length < 16) (r : Record) :
    s.post r = s.setReports (s.reports ++ [r]) := if_pos h

theorem State.post_of_full {s : State} (h : 16 ≤ s.reports.length) (r : Record) :
    s.post r = s.setFlags { s.flags with reportOverflow := true } := if_neg (Nat.not_lt.mpr h)

/-! ## What a request's run gives (R172) -/

theorem State.heard_port (s : State) : s.heard.port = s.port := by simp

/-- A request whose run leaves the port as it was has nothing granted after it (R98). -/
theorem request_settled {s t : State} {r : Reply} {run : State → State × Reply} (h : s.takesRequest)
    (hrun : run s.heard = (t, r)) (hport : t.port = s.port) : request s run = .next (t.setAnswer (some r)) := by
  rw [request_taken h, hrun, State.grant_settled]
  intro hfree
  rw [State.setAnswer_port, hport] at hfree ⊢
  exact h.2.2 hfree

/-- A request that only fills the answer slot. -/
theorem request_answered {s : State} {r : Reply} {run : State → State × Reply} (h : s.takesRequest)
    (hrun : run s.heard = (s.heard, r)) : request s run = .next { s.heard with answer := some r } :=
  request_settled h hrun s.heard_port

/-! ## The good frame of a request (R134, R139) -/

/-- A good frame of the own lesson controller on a CLEAR link (R134). -/
theorem State.heard_clear {s : State} (h : s.link.state = .clear) :
    s.heard = { s with link := { s.link with
      receiver := if s.link.inFlight.isSome then s.link.receiver else .gapWait 0, badRun := 0 } } := by
  simp [State.heard, State.frameEnds, State.countGood, State.setReceiver, State.setLink, Link.receiverAfterGood, h]

/-- On a TROUBLED link the good-frame count rises (R139). -/
theorem State.heard_troubled {s : State} (h : s.link.state = .troubled) (hcount : s.link.goodCount < 3) :
    s.heard = { s with link := { s.link with
      receiver := if s.link.inFlight.isSome then s.link.receiver else .gapWait 0, badRun := 0
      goodCount := s.link.goodCount + 1 } } := by
  have hfew : s.link.goodCount + 1 < Config.goodToClear := Nat.succ_lt_succ hcount
  simp [State.heard, State.frameEnds, State.countGood, State.setReceiver, State.setLink, Link.receiverAfterGood, h, hfew]

/-- The fourth good frame makes the link CLEAR, with its LINK record (R139). -/
theorem State.heard_clears {s : State} (h : s.link.state = .troubled) (hcount : s.link.goodCount = 3) :
    s.heard = (s.setLink { s.link with
      receiver := if s.link.inFlight.isSome then s.link.receiver else .gapWait 0, badRun := 0, goodCount := 0
      state := .clear }).post (.link .clear) := by
  simp [State.heard, State.frameEnds, State.countGood, State.setReceiver, State.setLink, Link.receiverAfterGood, h, hcount,
    Config.goodToClear]

/-- The transmit queue and a frame in flight are as they were when a good frame of the lesson controller has ended (R141). -/
@[simp] theorem State.heard_queue (s : State) :
    s.heard.link.queue = s.link.queue ∧ s.heard.link.inFlight = s.link.inFlight := by
  unfold State.heard State.frameEnds State.countGood
  dsimp only
  (repeat' split) <;> simp_all [State.setReceiver]

/-! ## The answer slot full (R172) -/

/-- A request of the lesson controller is taken by the Request Handler (R172). -/
theorem exec_isRequest {c : Instr} (hc : isRequest c = true) : ∃ run, ∀ s, exec c s = request s run := by
  cases c with
  | setup | setupStage | loadList | startSolo | startCircle | endRound | say | spell | stop | status | progress | exclude
  | roster | restart | doze | unknownRequest => exact ⟨_, fun _ => rfl⟩
  | _ => simp [isRequest] at hc

/-- A request that finds the slot full has the effect of its good frame and the flag alone. -/
theorem exec_request_overrun {c : Instr} {s : State} {r : Reply} (hc : isRequest c = true) (hhearing : s.hearing = true)
    (hanswer : s.answer = some r) (hsettled : s.portSettled) :
    exec c s = .next (s.heard.setFlags { s.heard.flags with requestOverrun := true }) := by
  obtain ⟨run, hrun⟩ := exec_isRequest hc
  rw [hrun, request_overrun hhearing hanswer, State.grant_settled]
  rw [State.portSettled, State.setFlags_port, s.heard_port]
  exact hsettled

/-- Settles O4, by the link's state and its good-frame count. -/
theorem requestFindsSlotFull : Obligations.RequestFindsSlotFull := by
  intro c s r hc hhearing hanswer hsettled after
  rw [exec_request_overrun hc hhearing hanswer hsettled]
  refine ⟨fun hclear => ?_, fun htroubled hcount => ?_, fun htroubled hcount hroom => ?_, fun htroubled hcount hfull => ?_⟩
  · rw [State.heard_clear hclear]
    rfl
  · rw [State.heard_troubled htroubled hcount]
    rfl
  · rw [State.heard_clears htroubled hcount, State.post_of_room]
    · rfl
    · exact hroom
  · rw [State.heard_clears htroubled hcount, State.post_of_full]
    · rfl
    · exact hfull

/-! ## STATUS, DOZE, unknown codes, PROGRESS, ROSTER, EXCLUDE -/

theorem clamp_zero (high n : Nat) : clamp 0 high n = min high n := Nat.max_eq_right (Nat.zero_le _)

theorem clamped_iff {low high n : Nat} (h : low ≤ high) : clamped low high n = true ↔ n < low ∨ high < n := by
  simp only [clamped, clamp, bne_iff_ne]
  omega

theorem clamped_zero (high n : Nat) : clamped 0 high n = decide (high < n) := by
  rw [Bool.eq_iff_iff, clamped_iff (Nat.zero_le _)]
  simp

theorem State.heard_dozeBusy (s : State) :
    s.heard.dozeBusy = true ↔ ¬ (s.round.state = .idle ∧ s.words.state ≠ .loading ∧ s.voiceA.current = none ∧
      s.voiceB.current = none ∧ s.link.queue = []) := by
  simp only [State.dozeBusy, State.heard_keeps, State.heard_queue, Bool.or_eq_true, bne_iff_ne, beq_iff_eq,
    Option.isSome_iff_ne_none]
  tauto

/-- ROSTER's reply is read from the entries in increasing laptop order (R179). -/
theorem rosterRequest_some {s : State} {args : List Byte} {x : Nat × RosterEntry}
    (h : (rosterEntries s.roster)[byteAt args 0]? = some x) :
    rosterRequest args s = (s, {
      code := 12, outcome := .done, adjusted := args.length != 1
      data := Byte.of (rosterEntries s.roster).length :: rosterData x.1 x.2 }) := by
  simp only [rosterRequest, h]
  rfl

theorem rosterRequest_none {s : State} {args : List Byte} (h : (rosterEntries s.roster).length ≤ byteAt args 0) :
    rosterRequest args s = (s, {
      code := 12, outcome := .refused, adjusted := args.length != 1
      data := [Byte.of (rosterEntries s.roster).length] }) := by
  simp only [rosterRequest, List.getElem?_eq_none h]
  rfl

theorem exec_progress {s : State} (h : s.takesRequest) (args : List Byte) :
    exec (.progress args) s = .next { s.heard with
      answer := some {
        code := 10, adjusted := args.length != 1
        outcome := if s.words.state = .loading then .busy else if s.words.state = .empty then .noList
          else if s.words.records.length ≤ byteAt args 0 then .refused else .done
        data := if s.words.state = .ready ∧ byteAt args 0 < s.words.records.length then
          [Byte.of (s.progressAt (byteAt args 0)).box, Byte.of (s.progressAt (byteAt args 0)).rest] else [] } } := by
  refine request_answered h ?_
  simp only [progressRequest, State.heard_keeps, State.progressAt, Prod.mk.injEq, true_and]
  cases hstate : s.words.state with
  | empty => simp [plainReply, countAdjusted, Config.codeProgress]
  | loading => simp [plainReply, countAdjusted, Config.codeProgress]
  | ready =>
    by_cases hword : s.words.records.length ≤ byteAt args 0
    · simp [plainReply, countAdjusted, Config.codeProgress, hword, Nat.not_lt.mpr hword]
    · simp [countAdjusted, Config.codeProgress, hword, Nat.lt_of_not_le hword]

/-- Settles O5, request by request: each run changes at most one window. -/
theorem readingRequestsAnswered : Obligations.ReadingRequestsAnswered := by
  refine ⟨fun s args h => ⟨request_answered h rfl, ?_, fun code _ => request_answered h rfl⟩, ?_, fun s args h hwindows => ?_⟩
  · rw [show exec (.doze args) s = request s (dozeRequest args) from rfl, request_answered h rfl]
    simp only [State.heard_dozeBusy, ite_not]
    rfl
  · intro s args h n entries
    refine ⟨exec_progress h args, fun x hx => ?_, fun hn => ?_⟩
    · have hrun := rosterRequest_some (s := s.heard) (args := args) (x := x)
        (by simp only [State.heard_keeps]; exact hx)
      rw [show exec (.roster args) s = request s (rosterRequest args) from rfl, request_answered h hrun]
      simp only [State.heard_keeps]
      rfl
    · have hrun := rosterRequest_none (s := s.heard) (args := args)
        (by simp only [State.heard_keeps]; exact hn)
      rw [show exec (.roster args) s = request s (rosterRequest args) from rfl, request_answered h hrun]
      simp only [State.heard_keeps]
      rfl
  · have hindex : clamp 0 3 (byteAt args 0) = min 3 (byteAt args 0) := clamp_zero _ _
    have hadjusted : (countAdjusted 3 args || clamped 0 3 (byteAt args 0) || clamped 0 64 (byteAt args 1) ||
        clamped 0 64 (byteAt args 2)) =
        decide (args.length ≠ 3 ∨ 3 < byteAt args 0 ∨ 64 < byteAt args 1 ∨ 64 < byteAt args 2) := by
      simp only [countAdjusted, clamped_zero, Bool.decide_or, decide_not, Bool.or_assoc, bne]
      rfl
    refine ⟨_, request_settled h rfl s.heard_port, ?_, ?_, ?_, fun i hi => ?_⟩
    · rw [← hadjusted]
      rfl
    · simp [hwindows]
    · simp [hwindows, hindex, clamp_zero]
    · simp [hindex, Ne.symm hi]

end Sys2Proof.Machine
end

section
/-! SETUP, the start requests and END ROUND (R65, R80, R154, R155, R170, R173, R174, R180). -/

namespace Sys2Proof.Machine

/-! ## SETUP (R173, R174) -/

theorem styleOf_min (n : Nat) :
    styleOf (min 2 n) = if n = 0 then .free else if n = 1 then .coached else .guided := by
  match n with
  | 0 => rfl
  | 1 => rfl
  | n + 2 => simp [styleOf]

theorem rateOf_min (n : Nat) :
    rateOf (min 2 n) = if n = 0 then .quick else if n = 1 then .normal else .slow := by
  match n with
  | 0 => rfl
  | 1 => rfl
  | n + 2 => simp [rateOf]

theorem setupAdjusted_iff (args : List Byte) (dropped : Bool) :
    (setupCountAdjusted 0 args || setupClamped args || dropped) = true ↔
      args.length ≠ 10 ∨ 2 < byteAt args 1 ∨ byteAt args 2 < 1 ∨ 4 < byteAt args 2 ∨ 7 < byteAt args 3 ∨
      2 < byteAt args 4 ∨ 16 < byteAt args 5 ∨ 16 < byteAt args 6 ∨ 8 < byteAt args 7 ∨ byteAt args 8 < 4 ∨
      15 < byteAt args 8 ∨ dropped = true := by
  simp only [setupCountAdjusted, countAdjusted, setupClamped, Bool.or_eq_true, clamped_zero, decide_eq_true_iff,
    clamped_iff (low := 1) (high := 4) (by decide), clamped_iff (low := 4) (high := 15) (by decide), if_true, bne_iff_ne,
    or_assoc]

theorem State.setupTaken_iff (s : State) :
    s.heard.setupTaken = true ↔ (s.round.state = .idle ∨ s.round.state = .circleDealing) ∧ s.words.state ≠ .loading := by
  simp [State.setupTaken]

theorem setupRequest_commit {s : State} {args : List Byte} (htaken : s.setupTaken = true) (hpart : byteAt args 0 = 0) :
    setupRequest args s = commitSetup args s := by
  simp [setupRequest, htaken, hpart, clamp_zero]

theorem setupRequest_stage {s : State} {args : List Byte} (htaken : s.setupTaken = true) (hpart : 1 ≤ byteAt args 0) :
    setupRequest args s = stageSetup (min 4 (byteAt args 0)) args s := by
  have hne : min 4 (byteAt args 0) ≠ 0 := by omega
  simp [setupRequest, htaken, hne, clamp_zero]

theorem setupRequest_busy {s : State} {args : List Byte} (htaken : ¬ s.setupTaken = true) :
    setupRequest args s = (s, {
      code := 1, outcome := .busy, adjusted := setupCountAdjusted (clamp 0 4 (byteAt args 0)) args, data := [] }) := by
  simp only [setupRequest, htaken]
  rfl

theorem stageAdjusted {args : List Byte} (hpart : 1 ≤ byteAt args 0) :
    (setupCountAdjusted (min 4 (byteAt args 0)) args || clamped 0 4 (byteAt args 0)) =
      decide ((args.length - 1) % 2 = 1 ∨ 8 < args.length - 1 ∨ 4 < byteAt args 0) := by
  have hne : min 4 (byteAt args 0) ≠ 0 := by omega
  rw [Bool.eq_iff_iff]
  simp [setupCountAdjusted, hne, clamped_zero, or_assoc]

/-- Settles O6: a SETUP is taken or BUSY by state, and a taken one commits or stages by its part. -/
theorem setupReplacesValues : Obligations.SetupReplacesValues := by
  refine ⟨fun s args h hstate hwords hpart => ?_, fun s args h => ⟨fun hstate hwords hpart => ?_, fun hnot => ?_⟩⟩
  · have hrun := (setupRequest_commit (s := s.heard) (s.setupTaken_iff.mpr ⟨hstate, hwords⟩) hpart)
    refine ⟨_, ?_, setupAdjusted_iff args _⟩
    rw [show exec (.setup args) s = request s (setupRequest args) from rfl, request_settled h hrun s.heard_port]
    simp only [State.heard_keeps, setupOf, styleOf_min, rateOf_min, clamp_zero, State.setSetup, State.setJudge,
      State.setAnswer]
    rfl
  · have hrun := (setupRequest_stage (s := s.heard) (s.setupTaken_iff.mpr ⟨hstate, hwords⟩) hpart)
    rw [show exec (.setupStage args) s = request s (setupRequest args) from rfl, request_settled h hrun s.heard_port,
      stageAdjusted hpart]
    simp only [State.heard_keeps, State.setStaged, State.setAnswer]
    rfl
  · have htaken : ¬ s.heard.setupTaken = true := by
      rw [s.setupTaken_iff]
      tauto
    exact ⟨_, request_answered h (setupRequest_busy htaken), request_answered h (setupRequest_busy htaken)⟩

/-! ## The checks of the start requests (R65, R154) -/

theorem State.heard_soloCheck (s : State) : s.heard.soloCheck = s.soloCheck := by simp [State.soloCheck]

theorem State.heard_wordAt (s : State) (w : Nat) : s.heard.wordAt w = s.wordAt w := by simp [State.wordAt]

theorem State.heard_usable (s : State) (w : Nat) : s.heard.usable w = s.usable w := by simp [State.usable, State.heard_wordAt]

theorem State.heard_excluded (s : State) (w : Nat) : s.heard.excluded w = s.excluded w := by simp [State.excluded]

/-- The word of a start request fails by the last lines of the tables. -/
theorem State.startWord_error {s : State} {w : Nat} {o : ReplyOutcome}
    (h : (if w ≠ 255 ∧ s.words.records.length ≤ w then some ReplyOutcome.refused
      else if w ≠ 255 ∧ s.usable w = false then some .refused
      else if w ≠ 255 ∧ s.excluded w = true then some .refused
      else if w = 255 ∧ s.choice = none then some .noWord
      else none) = some o) : s.heard.startWord w = .error o := by
  have hchoice := s.heard_choice
  simp only [State.startWord, choiceWord, State.heard_keeps, State.heard_usable, State.heard_excluded, hchoice]
  by_cases hw : w = 255
  · simp only [hw, ne_eq, not_true, false_and, if_false, true_and, if_true] at h ⊢
    cases hc : s.choice <;> simp_all
  · simp only [hw, ne_eq, not_false_eq_true, true_and, if_false, false_and] at h ⊢
    (repeat' split at h) <;> simp_all

theorem exec_startSolo_check {s : State} (h : s.takesRequest) (args : List Byte) {o : ReplyOutcome}
    (hcheck : s.soloCheck = some o) :
    exec (.startSolo args) s = .next { s.heard with
      answer := some { code := 3, outcome := o, adjusted := args.length != 1, data := [] } } := by
  refine request_answered h ?_
  simp only [startSoloRequest, State.heard_soloCheck, hcheck]
  rfl

theorem exec_startSolo_word {s : State} (h : s.takesRequest) {args : List Byte} {o : ReplyOutcome}
    (hcheck : s.soloCheck = none) (hword : s.heard.startWord (byteAt args 0) = .error o) :
    exec (.startSolo args) s = .next { s.heard with
      answer := some { code := 3, outcome := o, adjusted := args.length != 1, data := [] } } := by
  refine request_answered h ?_
  simp only [startSoloRequest, State.heard_soloCheck, hcheck, hword]
  rfl

theorem exec_startCircle_check {s : State} (h : s.takesRequest) (args : List Byte) {o : ReplyOutcome}
    (hcheck : s.heard.circleCheck = some o) :
    exec (.startCircle args) s = .next { s.heard with
      answer := some { code := 4, outcome := o, adjusted := args.length != 1, data := [] } } := by
  refine request_answered h ?_
  simp only [startCircleRequest, hcheck]
  rfl

theorem exec_startCircle_word {s : State} (h : s.takesRequest) {args : List Byte} {o : ReplyOutcome}
    (hcheck : s.heard.circleCheck = none) (hword : s.heard.startWord (byteAt args 0) = .error o) :
    exec (.startCircle args) s = .next { s.heard with
      answer := some { code := 4, outcome := o, adjusted := args.length != 1, data := [] } } := by
  refine request_answered h ?_
  simp only [startCircleRequest, hcheck, hword]
  rfl

/-- Settles O9: the checks stand in the order of the tables, and the first that fails answers alone. -/
theorem startChecksInOrder : Obligations.StartChecksInOrder := by
  intro s args o h w word list
  have hlist : ∀ rest, list rest = s.soloCheck.elim rest some := by
    intro rest
    simp only [list, State.soloCheck]
    split_ifs <;> rfl
  rw [hlist, hlist]
  cases hsolo : s.soloCheck with
  | some x =>
    refine ⟨fun hx => ?_, fun hx => ?_⟩
    · obtain rfl : x = o := Option.some.inj hx
      exact exec_startSolo_check h args hsolo
    · obtain rfl : x = o := Option.some.inj hx
      exact exec_startCircle_check h args (by simp [State.circleCheck, State.heard_soloCheck, hsolo])
  | none =>
    refine ⟨fun hword => exec_startSolo_word h hsolo (State.startWord_error hword), fun hcheck => ?_⟩
    simp only [Option.elim] at hcheck
    split_ifs at hcheck with hcircle htroubled
    · exact exec_startCircle_check h args (by simpa [State.circleCheck, State.heard_soloCheck, hsolo, hcircle] using hcheck)
    · exact exec_startCircle_check h args
        (by simpa [State.circleCheck, State.heard_soloCheck, hsolo, hcircle, htroubled] using hcheck)
    · exact exec_startCircle_word h (by simp [State.circleCheck, State.heard_soloCheck, hsolo, hcircle, htroubled])
        (State.startWord_error hcheck)

end Sys2Proof.Machine
end

section
/-! Speech on a free voice (R105, R106, R109): what an offer, a group and a marked group give there, said once. -/

namespace Sys2Proof.Machine

/-! ## What a start, a remark and a request depend on -/

theorem State.speaking_congr {s t : State} (h : t.setup = s.setup) : t.speaking = s.speaking := by
  funext v e behind
  simp [State.speaking, State.startContext, State.loadedPitch, h]

theorem State.remark_congr {s t : State} (hsetup : t.setup = s.setup) (hmarks : t.round.marks = s.round.marks) :
    t.remark = s.remark := by
  funext source priority phrase mark
  simp [State.remark, hsetup, hmarks]

/-- An unmarked remark depends on the setup values alone. -/
theorem State.remark_unmarked {s t : State} (h : t.setup = s.setup) (source : Source) (priority phrase : Nat) :
    t.remark source priority phrase false = s.remark source priority phrase false := by
  simp [State.remark, h]

theorem State.portAsked_congr {s t : State} (h : t.port = s.port) : t.portAsked = s.portAsked := by
  funext r kind
  have hask : (t.ask r kind).port = (s.ask r kind).port := by simp [State.ask, h]
  rw [State.portAsked, State.grant_of_port_eq hask]
  rfl

theorem State.voiceFree_congr {s t : State} {v : VoiceId} (hvoice : t.voice v = s.voice v) (hport : t.port = s.port) :
    t.voiceFree v ↔ s.voiceFree v := by
  rw [State.voiceFree, State.voiceFree, hvoice, State.hasTransfer_congr hport]

/-! ## Starting a phrase -/

theorem State.ask_setVoice (s : State) (r : Requester) (k : TransferKind) (v : VoiceId) (x : Voice) :
    (s.ask r k).setVoice v x = (s.setVoice v x).ask r k := by cases v <;> rfl

theorem State.ask_voice (s : State) (r : Requester) (k : TransferKind) (v : VoiceId) : (s.ask r k).voice v = s.voice v := by
  cases v <;> rfl

/-- A context that has not begun its phrase asks for its directory entry (R88, R109). -/
theorem State.begin_phrase {s : State} {v : VoiceId} {c : Context} {p : Nat} (hplace : c.place = .phraseEntry p)
    (hfree : s.hasTransfer (.voice v) = false) :
    s.begin v c = (s.setVoice v { s.voice v with current := some c, buffer := [], rendering := .silence }).ask (.voice v)
      (.phraseDirectory p) := by
  simp [State.begin, State.advance, walkFuel, walkOn, Config.bufferLimit, walkMove, hplace, hfree]

theorem State.startEntry_phrase {s : State} {v : VoiceId} {e : Entry} {p : Nat} (hstart : e.start = .phrase p)
    (hfree : s.hasTransfer (.voice v) = false) :
    s.startEntry v e = (s.setVoice v { s.voice v with current := some (s.startContext v e), buffer := [],
                                                      rendering := .silence }).ask (.voice v) (.phraseDirectory p) :=
  State.begin_phrase (by simp [State.startContext, startPlace, hstart]) hfree

/-- An entry offered to a free voice starts (R109). -/
theorem State.offer_free {s : State} {v : VoiceId} {e : Entry} {p : Nat} (hvoice : s.voiceFree v)
    (hstart : e.start = .phrase p) :
    s.offer v e = ((s.setVoice v (s.speaking v e [])).ask (.voice v) (.phraseDirectory p), true) := by
  obtain ⟨hcurrent, hqueue, hstack, hfree⟩ := hvoice
  simp [State.offer, hcurrent, State.startEntry_phrase hstart hfree, State.speaking, hqueue, hstack]

/-- An entry offered to a SOUNDING voice with room joins its queue (R104). -/
theorem State.offer_joins {s : State} {v : VoiceId} (e : Entry) (hcurrent : (s.voice v).current ≠ none)
    (hroom : (s.voice v).queue.length < 6) :
    s.offer v e = (s.setVoice v { s.voice v with queue := (s.voice v).queue ++ [e] }, true) := by
  obtain ⟨hnone, -⟩ | ⟨c, -, ⟨-, heq⟩ | ⟨hfull, -⟩ | ⟨hfull, -⟩⟩ := s.offer_cases v e
  · exact absurd hnone hcurrent
  · exact heq
  · omega
  · omega

/-- A group offered to a SOUNDING voice with room for it joins its queue in order (R105). -/
theorem State.offerAll_joins {s : State} {v : VoiceId} (es : List Entry) (hcurrent : (s.voice v).current ≠ none)
    (hroom : (s.voice v).queue.length + es.length ≤ 6) :
    s.offerAll v es = s.setVoice v { s.voice v with queue := (s.voice v).queue ++ es } := by
  induction es generalizing s with
  | nil =>
    simp only [List.append_nil]
    cases v <;> rfl
  | cons e es ih =>
    simp only [List.length_cons] at hroom
    show State.offerAll (s.offer v e).1 v es = _
    rw [State.offer_joins e hcurrent (by omega), ih]
    · simp
    · simpa using hcurrent
    · simp
      omega

/-- A group offered to a free voice starts with its first entry, and the others wait behind it (R105, R109). -/
theorem State.offerAll_free {s : State} {v : VoiceId} {e : Entry} {p : Nat} (es : List Entry) (hvoice : s.voiceFree v)
    (hstart : e.start = .phrase p) (hroom : es.length ≤ 6) :
    s.offerAll v (e :: es) = (s.setVoice v (s.speaking v e es)).ask (.voice v) (.phraseDirectory p) := by
  show State.offerAll (s.offer v e).1 v es = _
  rw [State.offer_free hvoice hstart, State.offerAll_joins]
  · simp [State.ask_setVoice, State.ask_voice, State.speaking]
  · simp [State.ask_voice, State.speaking]
  · simpa [State.ask_voice, State.speaking] using hroom

/-- The grant that follows a start gives the port what it asked for (R98). -/
theorem State.grant_ask (s : State) (r : Requester) (k : TransferKind) : (s.ask r k).grant = s.setPort (s.portAsked r k) := by
  rw [State.grant_of_port_eq (s := s.ask r k) rfl]
  rfl

theorem State.setVoice_port (s : State) (v : VoiceId) (x : Voice) : (s.setVoice v x).port = s.port := by cases v <;> rfl

/-- A request whose run asks for one transfer is granted what it can at its end (R98, R172). -/
theorem request_asking {s t : State} {r : Reply} {run : State → State × Reply} {rq : Requester} {k : TransferKind}
    (h : s.takesRequest) (hrun : run s.heard = (t, r)) (hport : t.port = (s.ask rq k).port) :
    request s run = .next ((t.setPort (s.portAsked rq k)).setAnswer (some r)) := by
  have hport' : (t.setAnswer (some r)).port = (s.ask rq k).port := hport
  rw [request_taken h, hrun, State.grant_of_port_eq hport']
  rfl

/-- Counting a request's good frame leaves what speech depends on as it was. -/
theorem State.heard_speech (s : State) :
    s.heard.speaking = s.speaking ∧ s.heard.remark = s.remark ∧ s.heard.portAsked = s.portAsked :=
  ⟨State.speaking_congr (by simp), State.remark_congr (by simp) (by simp), State.portAsked_congr (by simp)⟩

theorem State.heard_voiceFree (s : State) (v : VoiceId) : s.heard.voiceFree v ↔ s.voiceFree v :=
  State.voiceFree_congr (by cases v <;> simp [State.voice]) (by simp)

theorem State.heard_ask_port (s : State) (r : Requester) (k : TransferKind) : (s.heard.ask r k).port = (s.ask r k).port := by
  simp [State.ask]

/-! ## Groups of phrases in SPLIT mode (R106) -/

theorem State.assign_split {s : State} (hmode : s.setup.voiceMode = .split) {source : Source} (h : source ≠ .peer) :
    s.assign source = .A := by
  simp [State.assign, hmode, h]

theorem State.assign_peer {s : State} (hmode : s.setup.voiceMode = .split) : s.assign .peer = .B := by
  simp [State.assign, hmode]

/-- A group of phrases for the part's own child on a free voice A, before the grant. -/
theorem State.offerGroup_split {s : State} (hmode : s.setup.voiceMode = .split) (hfree : s.voiceFree .A) {source : Source}
    (hsource : source ≠ .peer) (priority first : Nat) {more : List Nat} (hroom : more.length ≤ 6) :
    s.offerGroup (s.phrases source priority (first :: more)) =
      (s.setVoice .A (s.speaking .A (s.remark source priority first false)
        (more.map (fun p => s.remark source priority p false)))).ask (.voice .A) (.phraseDirectory first) := by
  show s.offerAll (s.assign source) _ = _
  rw [State.assign_split hmode hsource]
  exact State.offerAll_free _ hfree rfl (by simpa using hroom)

/-- After the grant the part is saying the group (R98). -/
theorem State.offerGroup_saying {s : State} (hmode : s.setup.voiceMode = .split) (hfree : s.voiceFree .A) {source : Source}
    (hsource : source ≠ .peer) (priority first : Nat) {more : List Nat} (hroom : more.length ≤ 6) :
    (s.offerGroup (s.phrases source priority (first :: more))).grant = s.saying source priority first more := by
  rw [State.offerGroup_split hmode hfree hsource priority first hroom, State.grant_ask,
    State.portAsked_congr (State.setVoice_port _ _ _)]
  rfl

theorem State.speakOwn_saying {s : State} (hmode : s.setup.voiceMode = .split) (hfree : s.voiceFree .A) (first : Nat)
    {more : List Nat} (hroom : more.length ≤ 6) : (s.speakOwn (first :: more)).grant = s.saying .own 1 first more :=
  State.offerGroup_saying hmode hfree (source := .own) nofun 1 first hroom

theorem State.speakRound_saying {s : State} (hmode : s.setup.voiceMode = .split) (hfree : s.voiceFree .A) (first : Nat)
    {more : List Nat} (hroom : more.length ≤ 6) : (s.speakRound (first :: more)).grant = s.saying .round 2 first more :=
  State.offerGroup_saying hmode hfree (source := .round) nofun 2 first hroom

/-- A marked group on a free voice A: the round holds the mark's number, and the next mark takes the next one (R67). -/
theorem State.offerMarked_split {s : State} (hmode : s.setup.voiceMode = .split) (hfree : s.voiceFree .A) {e : Entry}
    {p : Nat} (hstart : e.start = .phrase p) {es : List Entry} (hroom : es.length ≤ 6) :
    s.offerMarked (e :: es) =
      ((s.setRound { s.round with marked := some s.round.marks, marks := s.round.marks + 1 }).setVoice .A
        (s.speaking .A e es)).ask (.voice .A) (.phraseDirectory p) := by
  unfold State.offerMarked
  rw [State.assign_split hmode (source := .round) nofun]
  exact State.offerAll_free (s := s.setRound _) es hfree hstart hroom

end Sys2Proof.Machine
end

section
/-! START SOLO and START CIRCLE on a word that may be taken, and END ROUND (R65 to R67, R80, R152, R154, R155, R170, R180). -/

namespace Sys2Proof.Machine

/-! ## START SOLO (R65 to R67) -/

/-- A named word that is there, usable and not excluded is taken as it is (R65). -/
theorem State.startWord_named {s : State} {w : Nat} {r : WordRecord} (hnamed : w ≠ 255) (hword : s.wordAt w = some r)
    (husable : r.usable = true) (hexcluded : s.excluded w = false) : s.startWord w = .ok (s, w) := by
  have hlength : ¬ s.words.records.length ≤ w := by
    intro hout
    simp [State.wordAt, List.getElem?_eq_none hout] at hword
  simp [State.startWord, choiceWord, hnamed, hlength, State.usable, hword, husable, hexcluded]

/-- A word taken as target gives R0 its cells (R21, R25). -/
theorem State.takeTarget_of_word {s : State} {w : Nat} {r : WordRecord} (hword : s.wordAt w = some r) :
    s.takeTarget w =
      (s.setAttempt { target := some w, landed := [], pending := [] }).setRows [rowZero r.letters.length] := by
  have hletters : (s.setAttempt { target := some w, landed := [], pending := [] }).targetLetters = r.letters := by
    show ((s.wordAt w).map (·.letters)).getD [] = _
    simp [hword]
  rw [State.takeTarget, hletters]

theorem State.sayPhrase_of_word {s : State} {w : Nat} {r : WordRecord} (hround : s.round.word = some w)
    (hword : s.wordAt w = some r) : s.sayPhrase = r.sayPhrase := by
  simp [State.sayPhrase, hround, hword]

/-- The prompt on a free voice A: "spell" and then the marked say-phrase (R67). -/
theorem State.queuePrompt_split {s : State} {w : Nat} {r : WordRecord} (hmode : s.setup.voiceMode = .split)
    (hfree : s.voiceFree .A) (hround : s.round.word = some w) (hword : s.wordAt w = some r) :
    s.queuePrompt =
      ((s.setRound { s.round with marked := some s.round.marks, marks := s.round.marks + 1 }).setVoice .A
        (s.speaking .A (s.remark .round 2 53 false) [s.remark .round 2 r.sayPhrase true])).ask (.voice .A)
        (.phraseDirectory 53) := by
  rw [State.queuePrompt, State.sayPhrase_of_word hround hword]
  exact State.offerMarked_split hmode hfree rfl (Nat.succ_le_succ (Nat.zero_le _))

/-- The facts and the target of a solo round as it opens (R64, R66). -/
def State.soloOpened (s : State) (w : Nat) (r : WordRecord) : State :=
  { s with
    round := { s.round with
      state := .soloOpening, kind := some .solo, word := some w, tag := none, soloTimer := .stopped
      circleTimer := .stopped, hints := 0, nextRepeat := .word, marked := none, assists := 0, misses := 0, deal := none }
    attempt := { target := some w, landed := [], pending := [] }
    judge := { s.judge with rows := [rowZero r.letters.length] } }

/-- A solo round opens on a word: the facts, the target with R0, and the prompt on a free voice A (R66, R67). -/
theorem State.openSolo_split {s : State} {w : Nat} {r : WordRecord} (hmode : s.setup.voiceMode = .split)
    (hfree : s.voiceFree .A) (hword : s.wordAt w = some r) :
    s.openSolo w =
      (((s.soloOpened w r).setRound { (s.soloOpened w r).round with
        marked := some s.round.marks, marks := s.round.marks + 1 }).setVoice .A
        (s.speaking .A (s.remark .round 2 53 false) [s.remark .round 2 r.sayPhrase true])).ask (.voice .A)
        (.phraseDirectory 53) := by
  have hopened : ((s.openFacts .solo w none .stopped).takeTarget w).setRoundState .soloOpening = s.soloOpened w r := by
    rw [State.takeTarget_of_word (s := s.openFacts .solo w none .stopped) hword]
    rfl
  have hspeaking : (s.soloOpened w r).speaking = s.speaking := State.speaking_congr rfl
  have hremark : (s.soloOpened w r).remark = s.remark := State.remark_congr rfl rfl
  rw [State.openSolo, hopened, State.queuePrompt_split (s := s.soloOpened w r) hmode hfree rfl hword, hspeaking, hremark]
  rfl

/-- Settles O8: the named word opens the round, and the arbiter grants what voice A asks for. -/
theorem startSoloOpensRound : Obligations.StartSoloOpensRound := by
  intro s args r h hidle hready hnamed hword husable hexcluded hmode hfree
  have hrun : startSoloRequest args s.heard = (s.heard.openSolo (byteAt args 0),
      { code := 3, outcome := .started, adjusted := args.length != 1, data := [Byte.of (byteAt args 0)] }) := by
    have hstart := State.startWord_named (s := s.heard) hnamed (by rw [s.heard_wordAt, hword]) husable
      (by rw [s.heard_excluded, hexcluded])
    simp only [startSoloRequest, s.heard_soloCheck, State.soloCheck_ready hidle hready, hstart]
    rfl
  obtain ⟨hspeaking, hremark, -⟩ := s.heard_speech
  rw [State.openSolo_split (s := s.heard) (r := r) (by simpa using hmode) ((s.heard_voiceFree .A).mpr hfree)
    (by rw [s.heard_wordAt, hword]), hspeaking, hremark] at hrun
  refine (request_asking h hrun (s.heard_ask_port _ _)).trans ?_
  simp only [State.soloOpened, State.setRound, State.setVoice, State.setVoiceA, State.ask, State.setPort, State.setAnswer,
    State.heard_keeps]

/-! ## START CIRCLE (R152, R154, R155) -/

theorem State.circleCheck_ready {s : State} (hidle : s.round.state = .idle) (hready : s.words.state = .ready)
    (hcircle : s.setup.circle = true) (hclear : s.link.state = .clear) : s.circleCheck = none := by
  simp [State.circleCheck, State.soloCheck_ready hidle hready, hcircle, hclear]

/-- A deal begins on a word: its DEAL entry with identity, word, tag and letter count, and the deal facts (R152, R155). -/
theorem State.beginDeal_eq {s : State} {w : Nat} {r : WordRecord} (hroom : s.link.countKind .deal = 0)
    (hword : s.wordAt w = some r) :
    s.beginDeal w = (s.setLink { s.link with
      queue := s.link.queue ++ [{
        kind := .deal, sending := false
        body := bytes16 s.words.identity ++
          [Byte.of w, Byte.of ((s.round.lastTag + 1) % 16), Byte.of r.letters.length] }] }).setRound
      { s.round with deal := some { tag := (s.round.lastTag + 1) % 16, word := w }, state := .circleDealing } := by
  have hfew : s.link.countKind .deal < TxKind.deal.limit := by simp [hroom, TxKind.limit]
  simp [State.beginDeal, State.queueFrame, hfew, hword]

/-- START CIRCLE's run on a word that may be dealt; u is the state with the choice's updates, if one was made. -/
theorem startCircleRequest_deals {s u : State} {args : List Byte} {w : Nat} {r : WordRecord}
    (hcheck : s.circleCheck = none) (hstart : s.startWord (byteAt args 0) = .ok (u, w))
    (hroom : u.link.countKind .deal = 0) (hword : u.wordAt w = some r) :
    startCircleRequest args s = ((u.setLink { u.link with
      queue := u.link.queue ++ [{
        kind := .deal, sending := false
        body := bytes16 u.words.identity ++
          [Byte.of w, Byte.of ((u.round.lastTag + 1) % 16), Byte.of r.letters.length] }] }).setRound
      { u.round with deal := some { tag := (u.round.lastTag + 1) % 16, word := w }, state := .circleDealing }, {
      code := 4, outcome := .started, adjusted := args.length != 1, data := [Byte.of w] }) := by
  simp only [startCircleRequest, hcheck, hstart, State.beginDeal_eq hroom hword]
  rfl

theorem State.heard_countKind (s : State) (k : TxKind) : s.heard.link.countKind k = s.link.countKind k := by
  simp [Link.countKind]

/-- Settles O11: the checks pass, the word is the named or the chosen one, and its deal begins. -/
theorem startCircleQueuesDeal : Obligations.StartCircleQueuesDeal := by
  refine ⟨fun s args r h hidle hready hcircle hclear hroom hnamed hword husable hexcluded => ?_,
    fun s args w r h hidle hready hcircle hclear hroom hany hchoice hword => ?_⟩
  · have hcheck := State.circleCheck_ready (s := s.heard) (by simpa using hidle) (by simpa using hready)
      (by simpa using hcircle) hclear
    have hstart := State.startWord_named (s := s.heard) hnamed (by rw [s.heard_wordAt, hword]) husable
      (by rw [s.heard_excluded, hexcluded])
    have hrun := startCircleRequest_deals hcheck hstart (by rw [s.heard_countKind, hroom]) (by rw [s.heard_wordAt, hword])
    refine (request_settled h hrun (by simp)).trans ?_
    simp only [State.setLink, State.setRound, State.setAnswer, State.heard_keeps]
  · have hcheck := State.circleCheck_ready (s := s.heard) (by simpa using hidle) (by simpa using hready)
      (by simpa using hcircle) hclear
    have hstart : s.heard.startWord (byteAt args 0) = .ok (s.heard.chose w, w) := by
      rw [hany]
      exact State.startWord_choice (by rw [s.heard_choice, hchoice])
    have hrun := startCircleRequest_deals hcheck hstart (r := r)
      (show s.heard.link.countKind .deal = 0 by rw [s.heard_countKind, hroom])
      (show s.heard.wordAt w = some r by rw [s.heard_wordAt, hword])
    refine ⟨_, request_settled h hrun (by simp [State.chose]), ?_, ?_, fun n e he => ?_⟩
    · simp only [State.setLink, State.setRound, State.setAnswer, State.chose, State.setProgress, State.setPrevious,
        State.heard_keeps]
    · simpa using s.heard.chose_progress_length w
    · have hrested := State.chose_progress_at (s := s.heard) (w := n) (e := e) (by simpa using he) w
      rw [State.restedEntry_eq, s.heard_eligible] at hrested
      exact hrested

/-! ## Leaving a round (R79, R141, R153, R170) -/

/-- Every return to IDLE (R21, R64, R79). -/
theorem State.toIdle_eq (s : State) :
    s.toIdle = { s with round := s.round.closed, attempt := Attempt.cleared, judge := { s.judge with rows := [] } } := rfl

/-- The station's own LETTER and CLOSE entries leave the transmit queue, and nothing else does (R141). -/
theorem State.removeRoundFrames_eq (s : State) :
    s.removeRoundFrames = s.setLink { s.link with queue := withoutRoundFrames s.link.queue } := by
  simp [State.removeRoundFrames, State.removeKind, State.setLink, withoutRoundFrames, List.filter_filter, Bool.and_comm]

theorem State.removePending_round (s : State) :
    s.removePending.round = { s.round with misses := if s.attempt.pending = [] then s.round.misses else 0 } := by
  by_cases hpending : s.attempt.pending = []
  · simp [State.removePending_of_eq hpending, hpending]
  · simp only [State.removePending_of_ne hpending, hpending, if_false]
    rfl

theorem State.removePending_pairs (s : State) : s.removePending.judge.pairs = s.judge.pairs := by
  unfold State.removePending
  split <;> rfl

/-- A circle round left: own frames and pending letters removed, then IDLE (R170). -/
theorem State.leaveCircle_eq (s : State) :
    s.removeRoundFrames.removePending.toIdle = { s with
      link := { s.link with queue := withoutRoundFrames s.link.queue }
      round := { s.round.closed with misses := if s.attempt.pending = [] then s.round.misses else 0 }
      attempt := Attempt.cleared, judge := { s.judge with rows := [] } } := by
  have hround := s.removeRoundFrames.removePending_round
  have hpairs := s.removeRoundFrames.removePending_pairs
  rw [State.toIdle_eq]
  simp only [hround, hpairs, State.removePending_keeps, Round.closed]
  simp only [State.removeRoundFrames_eq, State.setLink]

theorem endRoundRequest_eq (args : List Byte) (s : State) :
    endRoundRequest args s =
      (s.endRound, { code := 5, outcome := .done, adjusted := args.length != 0, data := [] }) := rfl

/-- Settles O12, by the state that END ROUND finds. -/
theorem endRoundReturnsToIdle : Obligations.EndRoundReturnsToIdle := by
  intro s args h reply
  have hend : ∀ {t : State}, s.heard.endRound = t → t.port = s.port →
      exec (.endRound args) s = .next (t.setAnswer reply) := by
    rintro t rfl hport
    exact request_settled h (endRoundRequest_eq args s.heard) hport
  refine ⟨fun hstate => ?_, fun hstate => ?_, fun hstate => ?_, fun hstate => ?_, fun hstate => ?_⟩
  · exact hend (by simp [State.endRound, State.leaveRound, hstate]) s.heard_port
  · intro u
    have hu : s.heard.endRound = u.toIdle := by
      obtain hstate | hstate := hstate <;>
        simp [State.endRound, State.leaveRound, hstate, u, State.resultRecord]
    rw [hend hu (by simp [u]), State.toIdle_eq]
    simp only [u, State.setAnswer, State.post_keeps, State.heard_keeps]
  · have hu : s.heard.endRound = s.heard.toIdle := by simp [State.endRound, State.leaveRound, hstate]
    rw [hend hu (by simp), State.toIdle_eq]
    simp only [State.setAnswer, State.heard_keeps]
  · have hu : s.heard.endRound = (s.heard.removeKind .deal).toIdle := by
      simp [State.endRound, State.leaveRound, hstate]
    rw [hend hu (by simp), State.toIdle_eq]
    simp only [State.setAnswer, State.removeKind, State.setLink, State.heard_keeps, State.heard_queue]
  · have hu : s.heard.endRound = s.heard.removeRoundFrames.removePending.toIdle := by
      cases hx : s.round.state <;> simp_all [State.endRound, State.leaveRound, RoundState.circleOpen]
    rw [hend hu (by simp), State.leaveCircle_eq]
    simp only [State.setAnswer, State.heard_keeps, State.heard_queue, withoutRoundFrames]

end Sys2Proof.Machine
end

section
/-! The line and the Mixer: what the receiver, the transmitter and a sample period do (R122 to R124, R126 to R129, R142). -/

namespace Sys2Proof.Machine

/-! ## The Mixer (R122 to R124) -/

theorem Voice.sample_eq (x : Voice) (given : BitVec 12) :
    x.sample given = if x.current.isSome ∧ x.rendering ≠ .silence then given.toInt else 0 := by
  unfold Voice.sample
  cases x.current <;> cases x.rendering <;> simp

/-- The division by 128 truncates toward zero (R123). -/
theorem tdiv_eq_ite (sum : Int) : sum.tdiv 128 = if 0 ≤ sum then sum / 128 else -(-sum / 128) := by
  split
  · exact Int.tdiv_eq_ediv_of_nonneg ‹_›
  · rw [← Int.neg_neg sum, Int.neg_tdiv, Int.tdiv_eq_ediv_of_nonneg (by omega), Int.neg_neg]

theorem clampSample_eq_self_iff (raw : Int) : clampSample raw = raw ↔ -2048 ≤ raw ∧ raw ≤ 2047 := by
  unfold clampSample
  omega

theorem clampSample_of_outside {raw : Int} (h : raw < -2048 ∨ 2047 < raw) :
    clampSample raw = if raw < 0 then -2048 else 2047 := by
  unfold clampSample
  split <;> omega

/-- Settles O28, by whether the mix is clamped. -/
theorem mixerSample : Obligations.MixerSample := by
  intro s a b heard gainB sum raw
  have hraw : mixed (s.voiceA.sample a) (s.voiceB.sample b) s.setup.gainA s.gainOfB s.setup.volume = raw := by
    rw [mixed, tdiv_eq_ite, Voice.sample_eq, Voice.sample_eq]
    rfl
  have hmix : exec (.samplePeriod a b) s = .next (if clampSample raw = raw then s.setMixer { s.mixer with output := raw }
      else (s.setMixer { clips := raise 255 s.mixer.clips, output := clampSample raw }).setFlags
        { s.flags with clipped := true }) := by
    rw [← hraw]
    rfl
  refine ⟨fun hlow hhigh => ?_, fun hout => ?_⟩
  · rw [hmix, if_pos ((clampSample_eq_self_iff raw).mpr ⟨hlow, hhigh⟩)]
    rfl
  · have hclamped : ¬ clampSample raw = raw := by
      rw [clampSample_eq_self_iff]
      omega
    rw [hmix, if_neg hclamped, clampSample_of_outside hout]
    rfl

/-! ## The receiver (R127, R128) -/

/-- A station with nothing to send has no frame ready (R142). -/
theorem State.chosen_none {s : State} (hqueue : s.link.queue = []) (hanswer : s.answer = none) (hreports : s.reports = []) :
    s.chosen = none := by
  simp [State.chosen, oldest, hqueue, hanswer, hreports]

theorem State.offerFrame_none {s : State} (h : s.chosen = none) (cell : Nat) : s.offerFrame cell = s := by
  simp [State.offerFrame, h]

/-- Settles O39, by the receiver's state. -/
theorem receiverFollowsLine : Obligations.ReceiverFollowsLine := by
  intro s
  refine ⟨fun n cells hgap => ⟨?_, ?_, fun hfew => ?_, fun hmany => ?_⟩, fun hready hqueue hanswer hreports => ?_,
    fun cell hframe hnone => ⟨fun hlow => ?_, fun hhigh => ?_⟩, fun cells hoff => ⟨?_, ?_, ?_, ?_⟩⟩
  · simp only [exec, execLowInGapWait, hgap]
  · simp only [exec, execOpeningLow, hgap]
  · have hnot : ¬ Config.quietCells ≤ n + cells := Nat.not_le.mpr hfew
    simp only [exec, execQuietGap, hgap, hnot, if_false]
  · have hquiet : Config.quietCells ≤ n + cells := hmany
    simp only [exec, execQuietGap, hgap, hquiet, if_true]
  · simp only [exec, execOpeningLow, hready]
    rw [State.offerFrame_none (s := s.setReceiver (.inFrame 0)) (State.chosen_none (s := s.setReceiver _) hqueue hanswer hreports)]
  · simp only [exec, execGlitch, hframe, hnone, hlow, if_true]
  · simp only [exec, execGlitch, hframe, hnone, Nat.not_lt.mpr hhigh, if_false]
  · simp only [exec, execLowInGapWait, hoff]
  · simp only [exec, execOpeningLow, hoff]
  · simp only [exec, execQuietGap, hoff]
  · simp only [exec, execGlitch, hoff]

/-! ## The cells of a frame (R126, R129) -/

theorem getLsbD_eq_true_iff (b : Byte) (i : Nat) : b.getLsbD i = true ↔ b.toNat / 2 ^ i % 2 = 1 := by
  rw [BitVec.getLsbD, Nat.testBit_eq_decide_div_mod_eq, decide_eq_true_iff]

theorem Frame.sendsOne_iff {f : Frame} {i k : Nat} {b : Byte} (hb : f.bytes[i]? = some b) (hk : k < 10) :
    f.sendsOne (12 + 10 * i + k) = true ↔ 1 ≤ k ∧ k ≤ 8 ∧ b.toNat / 2 ^ (8 - k) % 2 = 1 := by
  have hcell : ¬ 12 + 10 * i + k < 12 := by omega
  have hbyte : (12 + 10 * i + k - 12) / 10 = i := by omega
  have hplace : (12 + 10 * i + k - 12) % 10 = k := by omega
  simp only [Frame.sendsOne, hcell, hbyte, hplace, hb, if_false, Bool.and_eq_true, decide_eq_true_iff, getLsbD_eq_true_iff,
    and_assoc]

theorem Frame.drivesLow_iff {f : Frame} {i k : Nat} {b : Byte} (hb : f.bytes[i]? = some b) (hk : k < 10) :
    f.drivesLow (12 + 10 * i + k) = true ↔ k = 0 ∨ (k ≤ 8 ∧ b.toNat / 2 ^ (8 - k) % 2 = 0) := by
  have hi : i < f.bytes.length := (List.getElem?_eq_some_iff.mp hb).1
  have hcell : ¬ 12 + 10 * i + k < 12 := by omega
  have hin : 12 + 10 * i + k < f.cells := by
    unfold Frame.cells
    omega
  have hplace : (12 + 10 * i + k - 12) % 10 = k := by omega
  have hone := f.sendsOne_iff hb hk
  have hbit : b.toNat / 2 ^ (8 - k) % 2 < 2 := Nat.mod_lt _ (by decide)
  have hdrives : f.drivesLow (12 + 10 * i + k) = true ↔ k ≠ 9 ∧ ¬ f.sendsOne (12 + 10 * i + k) = true := by
    simp [Frame.drivesLow, hcell, hin, hplace]
  rw [hdrives, hone]
  omega

/-- Settles O42, by the cell's place in its byte. -/
theorem arbitrationLostOnOne : Obligations.ArbitrationLostOnOne := by
  refine ⟨fun s cell reached hframe hreached x hx => ⟨fun hone => ?_, fun hzero => ?_⟩,
    fun f i k b hb hk => ⟨Frame.sendsOne_iff hb hk, Frame.drivesLow_iff hb hk⟩, fun f cell => ⟨fun hlow => ?_, fun hend => ?_⟩⟩
  · simp only [exec, execArbitrationLoss, hframe, hx, hreached, hone, if_true]
    rfl
  · simp [exec, execArbitrationLoss, hframe, hx, hreached, hzero]
  · simp [Frame.drivesLow, hlow]
  · have hcell : ¬ cell < 12 := by
      unfold Frame.cells at hend
      omega
    simp [Frame.drivesLow, hcell, Nat.not_lt.mpr hend]

/-! ## The transmitter (R128, R142) -/

/-- The precedence and kind bytes of a REPLY or REPORT (R131). -/
theorem answerFrame_eq (code : Nat) (l : BitVec 3) (body : List Byte) :
    answerFrame code l body = {
      precedence := Byte.of (128 + 9 * l.toNat), kind := Byte.of (code * 16 + l.toNat * 2 + 1), body := body } := by
  have hprecedence : 2 * 64 + l.toNat * 8 + l.toNat = 128 + 9 * l.toNat := by omega
  simp only [answerFrame, precedenceByte, kindByte, hprecedence]

theorem bit_shift (b : Bool) : 128 * bit b = if b = true then 128 else 0 := by cases b <;> rfl

/-- The station begins or joins a frame once it has chosen one (R128). -/
theorem State.offerFrame_some {s : State} {l : Link} (h : s.chosen = some l) (cell : Nat) :
    s.offerFrame cell = { s with link := { l with receiver := .inFrame cell } } := by
  simp only [State.offerFrame, h]
  rfl

/-- The choice does not look at the receiver (R142). -/
theorem State.chosen_setReceiver (s : State) (x : Receiver) :
    (s.setReceiver x).chosen = s.chosen.map (fun l => { l with receiver := x }) := by
  unfold State.chosen
  simp only [State.setReceiver, State.setLink]
  split
  · rfl
  · split
    · rfl
    · split
      · rfl
      · split
        · rfl
        · cases oldest (· == .beat) s.link.queue <;> rfl

theorem State.offerFrame_setReceiver {s : State} {l : Link} (h : s.chosen = some l) (x : Receiver) (cell : Nat) :
    (s.setReceiver x).offerFrame cell = s.offerFrame cell := by
  have hchosen : (s.setReceiver x).chosen = some { l with receiver := x } := by simp [State.chosen_setReceiver, h]
  rw [State.offerFrame_some hchosen, State.offerFrame_some h]
  rfl

/-- Settles O40: the choice is made in the order of R142, and the three commands that begin or join a frame make it. -/
theorem frameOfferedInOrder : Obligations.FrameOfferedInOrder := by
  intro s hnone first zero deal begins answer offers
  have hoffers : ∀ (c : Instr) (cell : Nat), (∀ l, s.chosen = some l → exec c s = .next (s.offerFrame cell)) →
      offers c cell := by
    intro c cell hexec
    have hbegins : ∀ {q f place}, s.chosen = some { s.link with queue := q, inFlight := some { frame := f, place := place } } →
        exec c s = .next (begins cell q f place) := by
      intro q f place hchosen
      rw [hexec _ hchosen, State.offerFrame_some hchosen]
    refine ⟨fun e hzero => hbegins ?_, fun e hdeal hzero => hbegins ?_, fun r hr hzero hdeal => hbegins ?_,
      fun r hr hzero hdeal hanswer => hbegins ?_, fun e hbeat hzero hdeal hanswer hreports => hbegins ?_⟩
    · have hzero : oldest TxKind.classZero s.link.queue = some e := hzero
      simp only [State.chosen, hzero]
      rfl
    · have hzero : oldest TxKind.classZero s.link.queue = none := hzero
      have hdeal : oldest (· == .deal) s.link.queue = some e := hdeal
      simp only [State.chosen, hzero, hdeal]
      rfl
    · have hzero : oldest TxKind.classZero s.link.queue = none := hzero
      have hdeal : oldest (· == .deal) s.link.queue = none := hdeal
      simp only [State.chosen, hzero, hdeal, hr, answerFrame_eq, replyBody, Reply.outcomeByte, bit_shift]
      rfl
    · have hzero : oldest TxKind.classZero s.link.queue = none := hzero
      have hdeal : oldest (· == .deal) s.link.queue = none := hdeal
      obtain ⟨rest, hreports⟩ : ∃ rest, s.reports = r :: rest := by
        cases hreports : s.reports <;> simp_all
      simp only [State.chosen, hzero, hdeal, hanswer, hreports, answerFrame_eq]
      rfl
    · have hzero : oldest TxKind.classZero s.link.queue = none := hzero
      have hdeal : oldest (· == .deal) s.link.queue = none := hdeal
      have hbeat : oldest (· == .beat) s.link.queue = some e := hbeat
      simp only [State.chosen, hzero, hdeal, hanswer, hreports, hbeat]
      rfl
  refine ⟨fun hready => hoffers _ _ (fun l hl => ?_), fun cell hready => hoffers _ _ (fun l hl => ?_),
    fun hframe => ⟨hoffers _ _ (fun l hl => ?_), hoffers _ _ (fun l hl => ?_)⟩,
    fun reached cell hframe hlate => ?_, fun cell hqueue hanswer hreports => ?_⟩
  · simp only [exec, execOpeningLow, hready, State.offerFrame_setReceiver hl]
  · simp only [exec, execFrameOffer, hready, hnone]
  · simp [exec, execFrameOffer, hframe, hnone]
  · simp [exec, execFrameOffer, hframe, hnone]
  · have hwaits : ¬ (reached ≤ cell ∧ cell ≤ 1) := by omega
    simp only [exec, execFrameOffer, hframe, hnone, hwaits, if_false]
  · have hsame := fun c => State.offerFrame_none (State.chosen_none hqueue hanswer hreports) c
    simp only [exec, execFrameOffer, hsame, ite_self]
    split <;> rfl

end Sys2Proof.Machine
end

section
/-! The bytes of frames, replies and records (R131, R132, R144, R160, R178, R183, Tables 7-1 to 7-4). -/

namespace Sys2Proof.Machine

/-! ## Precedence and kind bytes (R131) -/

theorem Byte.of_toNat {n : Nat} (h : n < 256) : (Byte.of n).toNat = n := by
  simp [Byte.of, Nat.mod_eq_of_lt h]

theorem byteAt_lt (bytes : List Byte) (i : Nat) : byteAt bytes i < 256 := (bytes.getD i 0).isLt

/-- The rotated rank is (laptop − tag) mod 8 (R131). -/
theorem rotatedRank_eq (l : BitVec 3) {tag : Nat} (h : tag < 256) : rotatedRank l tag = (l.toNat + 256 - tag) % 8 := by
  have hl := l.isLt
  simp only [rotatedRank, BitVec.toNat_sub, BitVec.toNat_ofNat]
  omega

/-- The class of an entry's frame, its rank, and its kind code (Table 7-2). -/
theorem TxEntry.precedence_toNat (e : TxEntry) (l : BitVec 3) :
    (e.frame l).precedence.toNat =
      e.kind.cls * 64 + (if e.kind = .letter ∨ e.kind = .close then (l.toNat + 256 - byteAt e.body 0) % 8 else l.toNat) * 8 +
        l.toNat := by
  have hl := l.isLt
  have hrank := rotatedRank_eq l (byteAt_lt e.body 0)
  cases hk : e.kind <;>
    simp only [TxEntry.frame, TxEntry.precedence, hk, precedenceByte, TxKind.cls, hrank, reduceCtorEq, or_self, or_true, true_or,
      if_true, if_false] <;>
    exact Byte.of_toNat (by omega)

theorem kindByte_toNat {code : Nat} (h : code ≤ 7) (l : BitVec 3) : (kindByte code l.toNat 1).toNat = code * 16 + l.toNat * 2 + 1 := by
  have hl := l.isLt
  exact Byte.of_toNat (by omega)

theorem TxKind.code_le (k : TxKind) : k.code ≤ 7 := by cases k <;> decide

theorem TxEntry.precedence_mod (e : TxEntry) (l : BitVec 3) : (e.frame l).precedence.toNat % 8 = l.toNat := by
  have hl := l.isLt
  rw [e.precedence_toNat l]
  split <;> omega

/-! ## The check byte (R132) -/

theorem byteSum_append (a b : List Byte) : byteSum (a ++ b) = byteSum a + byteSum b := by simp [byteSum]

theorem Frame.bytes_sum (f : Frame) : (f.bytes.map (·.toNat)).sum % 256 = 0 := by
  have hcheck : (checkByte f.beforeCheck).toNat = (256 - byteSum f.beforeCheck % 256) % 256 :=
    Byte.of_toNat (Nat.mod_lt _ (by decide))
  show byteSum f.bytes % 256 = 0
  rw [Frame.bytes, byteSum_append]
  have hlast : byteSum [checkByte f.beforeCheck] = (256 - byteSum f.beforeCheck % 256) % 256 := by simp [byteSum, hcheck]
  omega

/-! ## The weighted check of letters (R160) -/

theorem weightedSum_eq (p : Nat) (letters : List Nat) :
    weightedSum p letters = ((List.range letters.length).map (fun i => (i + p) * letters.getD i 0)).sum := by
  induction letters generalizing p with
  | nil => rfl
  | cons x xs ih =>
    rw [weightedSum, ih, List.length_cons, List.range_succ_eq_map]
    simp only [List.map_cons, List.map_map, List.sum_cons, List.getD_cons_zero, Function.comp_def, List.getD_cons_succ]
    simp only [Nat.zero_add, Nat.mul_comm x p, Nat.succ_eq_add_one, Nat.add_assoc, Nat.add_comm 1 p]

/-! ## The flags byte of a STATUS REPLY (R178) -/

theorem Flags.byte_bits (f : Flags) :
    f.byte.getLsbD 0 = f.keyOverrun ∧ f.byte.getLsbD 1 = f.reportOverflow ∧ f.byte.getLsbD 2 = f.requestOverrun ∧
    f.byte.getLsbD 3 = f.numberClash ∧ f.byte.getLsbD 4 = f.linkTrouble ∧ f.byte.getLsbD 5 = f.clipped ∧
    f.byte.getLsbD 6 = false ∧ f.byte.getLsbD 7 = false := by
  obtain ⟨a, b, c, d, e, g⟩ := f
  revert a b c d e g
  decide

/-- Settles O41, by the arithmetic of each byte and the tables of codes. -/
theorem framesFormed : Obligations.FramesFormed := by
  refine ⟨?_, fun code l body hcode => ⟨?_, ?_⟩, fun f => ⟨?_, f.bytes_sum⟩, fun a b l m hne heq => ?_, fun letters => ?_,
    ⟨rfl, rfl, rfl, rfl⟩, fun s => ⟨s.flags.byte, rfl, s.flags.byte_bits⟩, ?_⟩
  · intro e l rank
    have hl := l.isLt
    have hrank : rank < 8 := by
      simp only [rank]
      split <;> omega
    have hprecedence : (e.frame l).precedence.toNat = e.kind.cls * 64 + rank * 8 + l.toNat := e.precedence_toNat l
    have hkind : (e.frame l).kind.toNat = e.kind.code * 16 + l.toNat * 2 + 1 := kindByte_toNat e.kind.code_le l
    refine ⟨?_, by omega, by omega, ?_, by omega, by omega, rfl⟩
    · have hcls : (e.frame l).precedence.toNat / 64 = e.kind.cls := by omega
      rw [hcls]
      cases e.kind <;> rfl
    · have hcode : (e.frame l).kind.toNat / 16 = e.kind.code := by omega
      rw [hcode]
      cases e.kind <;> rfl
  · have hl := l.isLt
    rw [answerFrame_eq]
    exact Byte.of_toNat (by omega)
  · exact kindByte_toNat hcode l
  · simp [Frame.bytes, Frame.beforeCheck]
  · apply hne
    apply BitVec.eq_of_toNat_eq
    rw [← a.precedence_mod l, ← b.precedence_mod m, heq]
  · rw [prefixCheck, weightedSum_eq]
  · intro key word score letters assists count tag laptop k g notify o lo d p c w
    have hnotify : Byte.of notify.toNat = notify := by simp [Byte.of]
    refine ⟨rfl, ?_, ?_, ?_, ?_, ?_, ?_, ?_⟩
    · cases k <;> cases g <;> rfl
    · simp only [Record.body, hnotify]
      cases o <;> rfl
    · cases lo <;> rfl
    · cases d <;> rfl
    · cases p <;> rfl
    · cases c <;> rfl
    · cases w <;> rfl

end Sys2Proof.Machine
end

section
/-! Ticks, doze entry and waking (R61, R62, R137, R140, R144 to R146, R148, R150). -/

namespace Sys2Proof.Machine

/-! ## Records posted one after another (R183) -/

theorem State.post_setRoster (s : State) (x : List (Option RosterEntry)) (r : Record) :
    (s.setRoster x).post r = (s.post r).setRoster x := by
  rw [State.post, State.post, apply_ite (State.setRoster · x)]; rfl

theorem State.post_setLink (s : State) (x : Link) (r : Record) : (s.setLink x).post r = (s.post r).setLink x := by
  rw [State.post, State.post, apply_ite (State.setLink · x)]; rfl

theorem State.post_setPower (s : State) (x : Power) (r : Record) : (s.setPower x).post r = (s.post r).setPower x := by
  rw [State.post, State.post, apply_ite (State.setPower · x)]; rfl

/-- PEER LEFT records are posted whatever the Roster holds. -/
theorem State.posts_setRoster (ns : List Nat) (s : State) (x : List (Option RosterEntry)) :
    ns.foldl (fun u n => u.post (.peer .left n)) (s.setRoster x) =
      (ns.foldl (fun u n => u.post (.peer .left n)) s).setRoster x := by
  induction ns generalizing s with
  | nil => rfl
  | cons n ns ih => rw [List.foldl_cons, State.post_setRoster, ih, List.foldl_cons]

theorem State.posts_setLink (ns : List Nat) (s : State) (x : Link) :
    ns.foldl (fun u n => u.post (.peer .left n)) (s.setLink x) =
      (ns.foldl (fun u n => u.post (.peer .left n)) s).setLink x := by
  induction ns generalizing s with
  | nil => rfl
  | cons n ns ih => rw [List.foldl_cons, State.post_setLink, ih, List.foldl_cons]

theorem State.posts_keep (ns : List Nat) (s : State) :
    KeepsReports s (ns.foldl (fun u n => u.post (.peer .left n)) s) ∧
      (ns.foldl (fun u n => u.post (.peer .left n)) s).roster = s.roster := by
  refine foldl_holds _ (fun t => KeepsReports s t ∧ t.roster = s.roster) (fun u n hu => ?_) ns s ⟨by simp [KeepsReports], rfl⟩
  simpa [KeepsReports] using hu

/-! ## The beat tick (R137, R144, R150) -/

/-- The aged entries leave with their PEER LEFT records (R150). -/
theorem State.removeAged_eq (s : State) :
    s.removeAged = ((agedOut s.roster).foldl (fun u n => u.post (.peer .left n)) s).setRoster
      (s.roster.map (fun e => e.filter (fun x => decide (x.age < 2)))) := State.posts_setRoster _ _ _

/-- The entries whose age would reach 3 (R150). -/
theorem mem_agedOut (roster : List (Option RosterEntry)) (n : Nat) :
    n ∈ agedOut roster ↔ ∃ e : RosterEntry, rosterAt roster n = some e ∧ 2 ≤ e.age := by
  simp only [agedOut, rosterEntries, List.mem_map, List.mem_filter, List.mem_filterMap, List.mem_range, decide_eq_true_iff,
    Option.map_eq_some_iff, Prod.exists, exists_and_right, exists_eq_right]
  constructor
  · rintro ⟨x, ⟨k, -, e, he, hpair⟩, hage⟩
    cases hpair
    exact ⟨_, he, hage⟩
  · rintro ⟨e, he, hage⟩
    refine ⟨e, ⟨n, ?_, e, he, rfl⟩, hage⟩
    by_contra hout
    simp [rosterAt, List.getElem?_eq_none (Nat.le_of_not_lt hout)] at he

theorem agedOut_sorted (roster : List (Option RosterEntry)) : (agedOut roster).Pairwise (· < ·) := by
  have hentries : (rosterEntries roster).Pairwise (fun p q => p.1 < q.1) := by
    refine List.Pairwise.filterMap _ ?_ List.pairwise_lt_range
    intro a b hab p hp q hq
    simp only [Option.map_eq_some_iff] at hp hq
    obtain ⟨-, -, rfl⟩ := hp
    obtain ⟨-, -, rfl⟩ := hq
    exact hab
  exact List.pairwise_map.mpr (hentries.filter _)

/-- Ageing what the removal has left (R150). -/
theorem State.ageRoster_removeAged (s : State) :
    s.removeAged.ageRoster = ((agedOut s.roster).foldl (fun u n => u.post (.peer .left n)) s).setRoster
      (s.roster.map (fun e => (e.filter (fun x => decide (x.age < 2))).map (fun x => { x with age := x.age + 1 }))) := by
  rw [State.removeAged_eq, State.ageRoster]
  simp only [State.setRoster_roster, List.map_map, Function.comp_def]
  rfl

/-- Settles O37: the records pass the Roster and the transmit queue, which the tick sets. -/
theorem beatTimerAgesRoster : Obligations.BeatTimerAgesRoster := by
  constructor
  · intro s left aged beat
    refine ⟨fun hpower => ?_, fun hpower hbeat => ?_, fun hpower hbeat => ?_, mem_agedOut s.roster, agedOut_sorted s.roster⟩
    · cases hp : s.power <;> simp_all [exec, execBeatTick]
    · obtain ⟨hkeeps, -⟩ := State.posts_keep (agedOut s.roster) s
      simp only [exec, execBeatTick, hpower, State.tick, hbeat, State.ageRoster_removeAged]
      simp [left, aged, State.setLink, State.setRoster, hkeeps]
    · obtain ⟨hkeeps, -⟩ := State.posts_keep (agedOut s.roster) s
      have hposts := State.posts_setLink (agedOut s.roster) s { s.link with
        queue := s.link.queue.filter (fun e => e.kind != .beat) ++ [beat] }
      have hqueued : s.queueBeat (beatBody s) = s.setLink { s.link with
        queue := s.link.queue.filter (fun e => e.kind != .beat) ++ [beat] } := rfl
      simp only [exec, execBeatTick, hpower, State.tick, hbeat, if_true, State.ageRoster_removeAged, hqueued,
        State.setLink_roster, hposts]
      simp [left, aged, State.setLink, State.setRoster, hkeeps]
  · refine fun s => ⟨fun hpower => ?_, fun hpower => ?_⟩
    · cases hp : s.power <;> simp_all [exec, execRosterAgeOut]
    · simp only [exec, execRosterAgeOut, hpower, State.removeAged_eq]
      rfl

/-! ## Doze entry and waking (R61, R62, R145, R146) -/

/-- Stopping a QUIET voice withdraws its request and does nothing else (R118). -/
theorem State.stopVoice_quiet {s : State} {v : VoiceId} (hquiet : s.voice v = Voice.quiet) (silent : Bool) :
    s.stopVoice silent v = s.withdraw (.voice v) := by
  have hsame : s.setVoice v Voice.quiet = s := by
    rw [← hquiet]
    cases v <;> rfl
  simp only [State.stopVoice, hquiet, hsame]
  rfl

theorem Voice.eq_quiet {x : Voice} (hnone : x.current = none) (hempty : x.quietIsEmpty) : x = Voice.quiet := by
  obtain ⟨hqueue, hstack, hbuffer, hrendering⟩ := hempty hnone
  cases x
  simp_all [Voice.quiet]

theorem State.replyEnds_doze {s : State} {r : Reply} (hanswer : s.answer = some r) (hcode : r.code = 14)
    (hdone : r.outcome = .done) (anyKey : Bool) : s.replyEnds anyKey = s.heardOwn.enterDoze anyKey := by
  have hdoze : s.goingToDoze = true := by simp [State.goingToDoze, hanswer, hcode, hdone, Config.codeDoze]
  have hstatus : ¬ r.code = Config.codeStatus := by simp [hcode, Config.codeStatus]
  simp only [State.replyEnds, hanswer, hdoze, hstatus, if_true, if_false]
  rfl

/-- Doze entry with both voices QUIET already (R145). -/
theorem State.enterDoze_quiet {s : State} (hA : s.voiceA = Voice.quiet) (hB : s.voiceB = Voice.quiet) (anyKey : Bool) :
    s.enterDoze anyKey = { s with
      power := if anyKey then .settling .key else .dozing
      scanner := { s.scanner with keys := List.replicate 64 { state := .up, run := 0 } }
      link := { s.link with receiver := .off, queue := [] }
      port := ((s.withdraw (.voice .A)).withdraw (.voice .B)).port } := by
  have hstop : (s.emptyQueue.setReceiver .off).stopBoth false =
      ((s.emptyQueue.setReceiver .off).withdraw (.voice .A)).withdraw (.voice .B) := by
    rw [State.stopBoth, State.stopVoice_quiet (s := s.emptyQueue.setReceiver .off) (v := .A) hA,
      State.stopVoice_quiet (s := (s.emptyQueue.setReceiver .off).withdraw (.voice .A)) (v := .B) hB]
  rw [State.enterDoze, hstop]
  cases anyKey <;>
    simp only [State.wake, State.withdraw, State.setPower, State.setScanner, State.setPort, State.setReceiver, State.setLink,
      State.emptyQueue, if_true, if_false, Bool.false_eq_true, KeyCell.up]

/-- Settles O38: doze entry from QUIET voices withdraws their requests alone, and each wake by the power state. -/
theorem dozeAndWake : Obligations.DozeAndWake := by
  refine ⟨fun s anyKey hhearing hsettled hA hB hquiet x hx hplace r hr hcode hdone => ?_, ?_⟩
  · have hsending : s.sendingFrom .answer = true := by simp [State.sendingFrom, hx, hplace]
    have hown : s.heardOwn.voiceA = Voice.quiet ∧ s.heardOwn.voiceB = Voice.quiet := by
      simp [State.heardOwn, Voice.eq_quiet hA hquiet.1, Voice.eq_quiet hB hquiet.2]
    have hport : s.heardOwn.port = s.port := by simp [State.heardOwn]
    have hdozes := State.enterDoze_quiet hown.1 hown.2 anyKey
    have hgrant : (s.heardOwn.enterDoze anyKey).grant = s.heardOwn.enterDoze anyKey := by
      apply State.grant_settled
      rw [hdozes]
      exact State.withdraw_settled _ (State.withdraw_settled _ (portSettled_of_port_eq hport hsettled))
    simp only [exec, execReplyFrame, hsending, if_true, frameEvent_hearing hhearing,
      State.replyEnds_doze hr hcode hdone, hgrant]
    rw [hdozes]
    simp [State.withdraw, State.heardOwn]
  · intro s woken
    refine ⟨fun hdozing => ⟨?_, ?_⟩, fun hnot => ⟨?_, ?_⟩, fun cause hsettling => ?_, fun hstate => ?_⟩
    · simp only [exec, execKeyWake, hdozing]
      rfl
    · simp only [exec, execLinkWake, hdozing]
      rfl
    · simp only [exec, execKeyWake]
      split
      · exact absurd ‹_› hnot
      all_goals rfl
    · simp only [exec, execLinkWake]
      split
      · exact absurd ‹_› hnot
      all_goals rfl
    · simp only [exec, execSettleEnd, hsettling, State.settled]
      rw [State.post_setRoster, State.post_setPower, State.setReceiver, State.post_setLink]
      rfl
    · obtain hstate | hstate := hstate <;> simp only [exec, execSettleEnd, hstate]

end Sys2Proof.Machine
end

section
/-! Verdict, lead column, hint letter and grade (R28, R46 to R48). -/

namespace Sys2Proof.Machine

/-! ## The frontier and the lead column (R28) -/

theorem least_mem {l : List Nat} (h : l ≠ []) : least l ∈ l := by
  induction l with
  | nil => exact absurd rfl h
  | cons a l ih =>
    cases l with
    | nil => simp [least]
    | cons b l =>
      rw [least]
      obtain hmin | hmin := Nat.le_total a (least (b :: l))
      · simp [Nat.min_eq_left hmin]
      · rw [Nat.min_eq_right hmin]
        exact List.mem_cons_of_mem _ (ih (by simp))

theorem least_le {l : List Nat} {c : Nat} (h : c ∈ l) : least l ≤ c := by
  induction l with
  | nil => simp at h
  | cons a l ih =>
    cases l with
    | nil => simp_all [least]
    | cons b l =>
      rw [least]
      obtain rfl | h := List.mem_cons.mp h
      · exact Nat.min_le_left _ _
      · exact le_trans (Nat.min_le_right _ _) (ih h)

theorem pushedRow_length (table : List (Nat × Nat)) (t : List Nat) (rows : List Row) (x : Nat) :
    (pushedRow table t rows x).cells.length = t.length + 1 := by
  simp [pushedRow]

/-- A row with cells has its frontier in its lead column, and above it in every column before (R28). -/
theorem Row.lead_spec {row : Row} {m : Nat} (hcells : row.cells.length = m + 1) :
    row.lead ≤ m ∧ row.cell row.lead = row.frontier ∧ (∀ j ≤ m, row.frontier ≤ row.cell j) ∧
    (∀ j < row.lead, row.frontier < row.cell j) := by
  have hne : row.cells ≠ [] := List.ne_nil_of_length_eq_add_one hcells
  have hlead : row.lead < row.cells.length := List.idxOf_lt_length_of_mem (least_mem hne)
  have hbound : ∀ j ≤ m, row.frontier ≤ row.cell j := by
    intro j hj
    have hj : j < row.cells.length := by omega
    rw [Row.cell, List.getD_eq_getElem _ _ hj]
    exact least_le (List.getElem_mem hj)
  refine ⟨by omega, ?_, hbound, fun j hj => ?_⟩
  · rw [Row.cell, List.getD_eq_getElem _ _ hlead]
    exact List.getElem_idxOf hlead
  · have hj' : j < row.cells.length := by omega
    refine lt_of_le_of_ne (hbound j (by omega)) (fun heq => ?_)
    rw [Row.cell, List.getD_eq_getElem _ _ hj'] at heq
    have hbefore := List.not_of_lt_findIdx (p := (· == row.frontier)) (xs := row.cells) hj
    simp_all

theorem Row.frontier_eq_zero_iff {row : Row} {m : Nat} (hcells : row.cells.length = m + 1) :
    row.frontier = 0 ↔ ∃ j ≤ m, row.cell j = 0 := by
  obtain ⟨hlead, hcell, hbound, -⟩ := row.lead_spec hcells
  constructor
  · exact fun hzero => ⟨row.lead, hlead, hcell.trans hzero⟩
  · rintro ⟨j, hj, hzero⟩
    exact Nat.le_zero.mp (hzero ▸ hbound j hj)

/-! ## Verdicts (R28) -/

theorem Row.verdict_on_iff (row : Row) (limit : Nat) : row.verdict limit = .on ↔ row.frontier = 0 := by
  unfold Row.verdict
  (repeat' split) <;> simp_all

theorem Row.verdict_near_iff (row : Row) (limit : Nat) :
    row.verdict limit = .near ↔ 1 ≤ row.frontier ∧ row.frontier ≤ limit := by
  unfold Row.verdict
  split
  · simp_all
  · split
    · simp only [true_iff]
      omega
    · simp only [reduceCtorEq, false_iff]
      omega

theorem Row.verdict_off_iff (row : Row) (limit : Nat) : row.verdict limit = .off ↔ limit < row.frontier := by
  unfold Row.verdict
  split
  · simp_all
  · split
    · simp only [reduceCtorEq, false_iff]
      omega
    · simp only [true_iff]
      omega

/-- The row pushed for a letter has a zero cell exactly when the letters with it begin the target (R27, R28). -/
theorem pushedRow_verdict_on (table : List (Nat × Nat)) (t letters : List Nat) (x limit : Nat) :
    (pushedRow table t (builtRows table t letters) x).verdict limit = .on ↔ (letters ++ [x]).isPrefixOf t = true := by
  have hmeasures : (pushedRow table t (builtRows table t letters) x).Measures t (letters ++ [x]) := by
    have htop : (builtRows table t (letters ++ [x]))[0]? = some (pushedRow table t (builtRows table t letters) x) := by
      rw [builtRows_append_singleton]
      rfl
    have hlast := builtRows_measures htop
    rwa [Nat.sub_zero, List.take_length] at hlast
  rw [Row.verdict_on_iff, Row.frontier_eq_zero_iff (pushedRow_length table t _ x), List.isPrefixOf_iff_prefix,
    List.prefix_iff_eq_take]
  constructor
  · rintro ⟨j, hj, hzero⟩
    exact ((hmeasures.zero_iff j hj).mp hzero).2
  · intro hbegins
    have hlength : (letters ++ [x]).length ≤ t.length := by
      rw [hbegins, List.length_take]
      exact Nat.min_le_right _ _
    exact ⟨_, hlength, (hmeasures.zero_iff _ hlength).mpr ⟨rfl, hbegins⟩⟩

/-- Settles O54: a row's verdict by its frontier, the hint letter by its lead column, the grade by its definition. -/
theorem verdictHintAndGrade : Obligations.VerdictHintAndGrade := by
  refine ⟨?_, fun s row hrow => ?_, fun landed score assists limit => ?_⟩
  · intro table t letters x limit hlimit row
    exact ⟨pushedRow_verdict_on table t letters x limit, row.verdict_near_iff limit, row.verdict_off_iff limit,
      row.lead_spec (pushedRow_length table t _ x)⟩
  · have hhead : s.judge.rows.headD (rowZero s.targetLetters.length) = row := by
      simp [List.headD_eq_head?_getD, hrow]
    simp only [State.hintLetter, hhead]
    split
    · rw [targetLetter_succ ‹_›, List.getElem?_eq_getElem ‹_›]
    · rw [List.getElem?_eq_none (Nat.le_of_not_lt ‹_›)]
  · unfold gradeOf
    split_ifs <;> simp <;> omega

end Sys2Proof.Machine
end

section
/-! Keys taken by the Round Controller (R55 to R59): what a key command does, and the keys of solo and circle play. -/

namespace Sys2Proof.Machine

/-! ## Taking a key (R55, R69) -/

theorem State.dropKey_eq (s : State) : s.dropKey = s.keyTaken := by
  by_cases hopen : s.round.state = .soloOpen <;>
    simp [State.dropKey, State.keyTaken, State.setScanner, State.setRound, hopen]

@[simp] theorem State.keyTaken_state (s : State) : s.keyTaken.round.state = s.round.state := by
  unfold State.keyTaken
  dsimp only
  split <;> rfl

/-- Taking a key restarts the round timer in SOLO_OPEN alone (R69). -/
theorem State.keyTaken_round {s : State} (h : s.round.state ≠ .soloOpen) : s.keyTaken.round = s.round := by
  simp [State.keyTaken, h]

/-- Of the round facts, taking a key changes the round timer alone. -/
theorem State.keyTaken_facts (s : State) :
    s.keyTaken.round = { s.round with soloTimer := s.keyTaken.round.soloTimer } := by
  unfold State.keyTaken
  dsimp only
  split <;> rfl

theorem State.keyTaken_misses (s : State) : s.keyTaken.round.misses = s.round.misses := by rw [s.keyTaken_facts]
theorem State.keyTaken_assists (s : State) : s.keyTaken.round.assists = s.round.assists := by rw [s.keyTaken_facts]
theorem State.keyTaken_hints (s : State) : s.keyTaken.round.hints = s.round.hints := by rw [s.keyTaken_facts]
theorem State.keyTaken_nextRepeat (s : State) : s.keyTaken.round.nextRepeat = s.round.nextRepeat := by
  rw [s.keyTaken_facts]
theorem State.keyTaken_word (s : State) : s.keyTaken.round.word = s.round.word := by rw [s.keyTaken_facts]
theorem State.keyTaken_tag (s : State) : s.keyTaken.round.tag = s.round.tag := by rw [s.keyTaken_facts]

/-- A key command takes the waiting key of its class (R55). -/
theorem keyEvent_taken {s : State} {k : Nat} {fits : Nat → Bool} {use : Nat → State → State} (hwaits : s.keyWaits k)
    (htakes : s.round.state.takesKeys = true) (hfits : fits k = true) :
    keyEvent s fits use = .next (use k s.keyTaken).grant := by
  have hnext : s.nextKey = some k := s.nextKey_some.mpr ⟨hwaits.1, htakes, hwaits.2⟩
  simp [keyEvent, hnext, hfits, s.dropKey_eq]

/-- In a state that takes no keys, and while the part dozes or settles, keys wait (R55, R62). -/
theorem keyEvent_waits {s : State} (h : s.round.state.takesKeys = false ∨ s.power ≠ .awake) (fits : Nat → Bool)
    (use : Nat → State → State) : keyEvent s fits use = .next s := by
  have hnext : s.nextKey = none := if_neg (by rintro ⟨hawake, htakes⟩; simp_all)
  simp [keyEvent, hnext]

/-- The row of a key of code k is a key command whose class holds k, and which treats k as unused where its state does not
use it (Table 3-1, R58). -/
theorem exec_keyRow (s : State) (k : Nat) : ∃ fits use,
    exec (keyRow k) s = keyEvent s fits use ∧ (s.round.state.usesKey k = false → fits k = true) ∧
    ∀ t : State, t.round.state.usesKey k = false → use k t = unusedKey k t := by
  by_cases hletter : k < 26
  · refine ⟨_, _, by rw [keyRow, if_pos hletter]; rfl, fun _ => by simpa using hletter, fun t ht => ?_⟩
    have hused : k < 30 := by omega
    cases hx : t.round.state <;> simp_all [RoundState.usesKey, useLetter]
  obtain rfl | herase := eq_or_ne k 26
  · refine ⟨_, _, rfl, fun _ => rfl, fun t ht => ?_⟩
    cases hx : t.round.state <;> simp_all [RoundState.usesKey, useErase]
  obtain rfl | hdone := eq_or_ne k 27
  · refine ⟨_, _, rfl, fun _ => rfl, fun t ht => ?_⟩
    cases hx : t.round.state <;> simp_all [RoundState.usesKey, useDone, Config.keyDone]
  obtain rfl | hrepeat := eq_or_ne k 28
  · refine ⟨_, _, rfl, fun _ => rfl, fun t ht => ?_⟩
    cases hx : t.round.state <;> simp_all [RoundState.usesKey, useRepeat]
  obtain rfl | hhint := eq_or_ne k 29
  · refine ⟨_, _, rfl, fun _ => rfl, fun t ht => ?_⟩
    cases hx : t.round.state <;> simp_all [RoundState.usesKey, useHint]
  · exact ⟨_, _, by simp only [keyRow, if_neg hletter, if_neg herase, if_neg hdone, if_neg hrepeat, if_neg hhint]; rfl,
      fun h => by simp [h], fun _ _ => rfl⟩

/-- A key that the state takes but does not use itself, at its row (R56 to R58). -/
theorem exec_keyRow_unused {s : State} {k : Nat} (hwaits : s.keyWaits k) (htakes : s.round.state.takesKeys = true)
    (hunused : s.round.state.usesKey k = false) : exec (keyRow k) s = .next (unusedKey k s.keyTaken).grant := by
  obtain ⟨fits, use, hexec, hfits, huse⟩ := exec_keyRow s k
  rw [hexec, keyEvent_taken hwaits htakes (hfits hunused), huse s.keyTaken (by simpa using hunused)]

/-- A key that the state takes but does not use itself, at the row of such keys (R56 to R58, log 9). -/
theorem exec_otherKey_unused {s : State} {k : Nat} (hwaits : s.keyWaits k) (htakes : s.round.state.takesKeys = true)
    (hunused : s.round.state.usesKey k = false) : exec .otherKey s = .next (unusedKey k s.keyTaken).grant :=
  keyEvent_taken hwaits htakes (by simp [hunused])

/-- Speech for the own child from a state that is free to speak (R105). -/
theorem State.freeToSpeak.own {s : State} (h : s.freeToSpeak) (first : Nat) {more : List Nat} (hroom : more.length ≤ 6) :
    (s.speakOwn (first :: more)).grant = s.saying .own 1 first more :=
  State.speakOwn_saying h.1 h.2.1 first hroom

theorem State.freeToSpeak.round {s : State} (h : s.freeToSpeak) (first : Nat) {more : List Nat} (hroom : more.length ≤ 6) :
    (s.speakRound (first :: more)).grant = s.saying .round 2 first more :=
  State.speakRound_saying h.1 h.2.1 first hroom

/-- Being free to speak depends on the setup values, voice A and the port. -/
theorem State.freeToSpeak.congr {s t : State} (h : s.freeToSpeak) (hsetup : t.setup = s.setup) (hvoice : t.voiceA = s.voiceA)
    (hport : t.port = s.port) : t.freeToSpeak := by
  obtain ⟨hmode, hfree, hsettled⟩ := h
  exact ⟨by rw [hsetup, hmode], (State.voiceFree_congr (v := .A) hvoice hport).mpr hfree, portSettled_of_port_eq hport hsettled⟩

/-! ## Keys that are not used (R56 to R58) -/

/-- A key of a controller's state, with no use for it, is forwarded with no speech (R56). -/
theorem unusedKey_forwarded {s : State} (k : Nat) (hreview : s.round.state ≠ .soloReview)
    (hspectator : s.round.state ≠ .circleSpectator) (hlost : s.round.state ≠ .circleLost) :
    unusedKey k s = s.post (.key k) := by
  unfold unusedKey
  cases hx : s.round.state <;> simp_all [State.forwardKey]

/-- A key of a station that is not a player is forwarded, a letter or Done with the buzz (R57, R58). -/
theorem unusedKey_watching {s : State} (k : Nat) (h : s.round.state = .circleSpectator ∨ s.round.state = .circleLost) :
    unusedKey k s = if k < 26 ∨ k = 27 then (s.post (.key k)).speakOwn [69] else s.post (.key k) := by
  obtain h | h := h <;> simp only [unusedKey, h] <;> rfl

/-- Settles O30: a key that its state takes and does not use goes to `unusedKey`, by state. -/
theorem keysNotUsed : Obligations.KeysNotUsed := by
  refine ⟨fun s k hwaits hsettled => ?_, fun s k => ⟨fun hwaits hwatching => ?_, fun hwaits hreview hnotDone hsettled => ?_,
    fun h => ?_⟩⟩
  · have hforward : s.round.state ≠ .soloReview → s.round.state ≠ .circleSpectator → s.round.state ≠ .circleLost →
        (unusedKey k s.keyTaken).grant = s.keyTaken.post (.key k) := by
      intro hreview hspectator hlost
      rw [unusedKey_forwarded k (by simpa using hreview) (by simpa using hspectator) (by simpa using hlost)]
      exact State.grant_settled (portSettled_of_port_eq (by simp; rfl) hsettled)
    refine ⟨fun hstate => ?_, fun hstate hcode => ?_⟩
    · have htakes : s.round.state.takesKeys = true := by obtain h | h := hstate <;> rw [h] <;> rfl
      have hunused : s.round.state.usesKey k = false := by obtain h | h := hstate <;> rw [h] <;> rfl
      have hend := hforward (by rintro h; simp_all) (by rintro h; simp_all) (by rintro h; simp_all)
      exact ⟨by rw [exec_keyRow_unused hwaits htakes hunused, hend], by rw [exec_otherKey_unused hwaits htakes hunused, hend]⟩
    · have htakes : s.round.state.takesKeys = true := by obtain h | h := hstate <;> rw [h] <;> rfl
      have hunused : s.round.state.usesKey k = false := by obtain h | h := hstate <;> simpa [h, RoundState.usesKey] using hcode
      rw [exec_otherKey_unused hwaits htakes hunused,
        hforward (by rintro h; simp_all) (by rintro h; simp_all) (by rintro h; simp_all)]
  · have htakes : s.round.state.takesKeys = true := by obtain h | h := hwatching <;> rw [h] <;> rfl
    have hunused : s.round.state.usesKey k = false := by obtain h | h := hwatching <;> rw [h] <;> rfl
    rw [exec_keyRow_unused hwaits htakes hunused, unusedKey_watching k (by simpa using hwatching)]
    refine ⟨fun hbuzzed hspeak => ?_, fun hcode hnotDone hsettled => ?_⟩
    · rw [if_pos hbuzzed, State.freeToSpeak.own (hspeak.congr (by simp; rfl) (by simp; rfl) (by simp; rfl)) 69 (Nat.zero_le _)]
    · rw [if_neg (by omega), State.grant_settled (portSettled_of_port_eq (by simp; rfl) hsettled)]
  · have hunused : s.round.state.usesKey k = false := by simpa [hreview, RoundState.usesKey, Config.keyDone] using hnotDone
    have hdiscarded : unusedKey k s.keyTaken = s.keyTaken := by simp [unusedKey, hreview]
    rw [exec_keyRow_unused hwaits (by rw [hreview]; rfl) hunused, hdiscarded,
      State.grant_settled (s := s.keyTaken) hsettled]
  · obtain ⟨fits, use, hexec, -⟩ := exec_keyRow s k
    rw [hexec]
    obtain h | h | h := h
    · exact keyEvent_waits (.inl (by rw [h]; rfl)) fits use
    · exact keyEvent_waits (.inl (by rw [h]; rfl)) fits use
    · exact keyEvent_waits (.inr h) fits use

end Sys2Proof.Machine
end

section
/-! The keys of an open solo round and of a circle player (R31 to R34, R40 to R48, R70 to R73, R160, R161). -/

namespace Sys2Proof.Machine

/-! ## The row of each key -/

theorem exec_letterKey {s : State} {k : Nat} (hwaits : s.keyWaits k) (hcode : k < 26)
    (htakes : s.round.state.takesKeys = true) : exec .letterKey s = .next (useLetter k s.keyTaken).grant :=
  keyEvent_taken hwaits htakes (by simpa using hcode)

theorem exec_letterKey_solo {s : State} {k : Nat} (hwaits : s.keyWaits k) (hcode : k < 26)
    (hstate : s.round.state = .soloOpen) : exec .letterKey s = .next (s.keyTaken.soloLetter (k + 1)).grant := by
  rw [exec_letterKey hwaits hcode (by rw [hstate]; rfl)]
  simp [useLetter, hstate]

theorem exec_letterKey_player {s : State} {k : Nat} (hwaits : s.keyWaits k) (hcode : k < 26)
    (hstate : s.round.state = .circlePlayer) : exec .letterKey s = .next (s.keyTaken.circleLetter (k + 1)).grant := by
  rw [exec_letterKey hwaits hcode (by rw [hstate]; rfl)]
  simp [useLetter, hstate]

theorem letterPhrase_eq (v : LetterVoice) (x : Nat) : letterPhrase v x = if v = .name then x else x + 26 := by
  cases v <;> rfl

/-- GUIDED style refuses a letter whose verdict is not ON (R43). -/
theorem State.guidedRefuses_eq (s : State) (x : Nat) :
    s.guidedRefuses x = true ↔ s.setup.style = .guided ∧ (s.nextRow x).frontier ≠ 0 := by
  simp [State.guidedRefuses, State.verdictOf, ← (s.nextRow x).verdict_on_iff s.setup.closeLimit]

/-! ## Letters of a solo round (R32, R40, R42, R70) -/

/-- The feedback of a letter: its echo, with "check that letter" after an OFF verdict in COACHED style (R40, R42). -/
theorem State.freeToSpeak.echo {s : State} (h : s.freeToSpeak) (x : Nat) (v : Verdict) :
    (s.echoOwn x v).grant = s.saying .own 1 (if s.setup.letterVoice = .name then x else x + 26)
      (if s.setup.style = .coached ∧ v = .off then [60] else []) := by
  simp only [State.echoOwn]
  split
  · rw [h.own _ (by decide), letterPhrase_eq]
  · rw [h.own _ (Nat.zero_le _), letterPhrase_eq]

/-- Settles O31: the letter limit first, then the landing with its echo. -/
theorem soloLetterLands : Obligations.SoloLetterLands := by
  intro s k hwaits hstate hcode hspeak x row v
  rw [exec_letterKey_solo hwaits hcode hstate]
  have hspeak' : s.keyTaken.freeToSpeak := hspeak
  refine ⟨fun hfull => ?_, fun hroom hkept => ?_⟩
  · rw [State.soloLetter, if_pos (show Config.attemptLimit ≤ s.keyTaken.attempt.landed.length from hfull)]
    exact congrArg Host.Outcome.next (hspeak'.own 66 (Nat.zero_le _))
  · have hrefuses : ¬ s.keyTaken.guidedRefuses (k + 1) = true := by
      rw [State.guidedRefuses_eq]
      rintro ⟨hguided, hfrontier⟩
      obtain hstyle | hon := hkept
      · exact hstyle hguided
      · exact hfrontier ((row.verdict_on_iff s.setup.closeLimit).mp hon)
    rw [State.soloLetter, if_neg (show ¬ Config.attemptLimit ≤ s.keyTaken.attempt.landed.length from
      Nat.not_le.mpr hroom), if_neg hrefuses, State.landSolo]
    exact congrArg Host.Outcome.next (State.freeToSpeak.echo (s := { s.keyTaken with
      judge := { s.judge with rows := row :: s.judge.rows }
      attempt := { s.attempt with landed := s.attempt.landed ++ [x] }
      round := { s.keyTaken.round with misses := 0 } }) hspeak x v)

/-! ## Refusals of GUIDED style (R43 to R45, R48) -/

/-- The first and second miss (R43). -/
theorem State.guidedRefusal_few {s : State} (h : s.freeToSpeak) (hfew : s.round.misses < 2) :
    s.guidedRefusal.grant =
      ({ s with round := { s.round with misses := s.round.misses + 1 } } : State).saying .own 1 69 [59] := by
  rw [State.guidedRefusal, if_pos hfew]
  exact State.freeToSpeak.own (s := s.setMisses (s.round.misses + 1)) h 69 (by decide)

/-- The third miss, with a hint letter (R44, R48). -/
theorem State.guidedRefusal_hint {s : State} {x : Nat} (h : s.freeToSpeak) (hmany : 2 ≤ s.round.misses)
    (hhint : s.hintLetter = some x) :
    s.guidedRefusal.grant =
      ({ s with round := { s.round with misses := 0, assists := min 255 (s.round.assists + 1) } } : State).saying .own 1 69
        [if s.setup.letterVoice = .name then x else x + 26] := by
  rw [State.guidedRefusal, if_neg (by omega), hhint, ← letterPhrase_eq]
  exact State.freeToSpeak.own (s := s.setRound { s.round with misses := 0, assists := raise 255 s.round.assists }) h 69
    (Nat.succ_le_succ (Nat.zero_le _))

/-- The third miss, with no hint letter (R44, R48). -/
theorem State.guidedRefusal_noHint {s : State} (h : s.freeToSpeak) (hmany : 2 ≤ s.round.misses)
    (hhint : s.hintLetter = none) :
    s.guidedRefusal.grant = ({ s with round := { s.round with misses := 0 } } : State).saying .own 1 69 [62] := by
  rw [State.guidedRefusal, if_neg (by omega), hhint]
  exact State.freeToSpeak.own (s := s.setMisses 0) h 69 (by decide)

/-- Settles O32: both letter rules come to the refusal, which goes by the miss count. -/
theorem guidedRefusesLetter : Obligations.GuidedRefusesLetter := by
  intro s k hwaits hcode hspeak hguided hfrontier hstate facts
  have hspeak' : s.keyTaken.freeToSpeak := hspeak
  have hrefuses : s.keyTaken.guidedRefuses (k + 1) = true := (State.guidedRefuses_eq _ _).mpr ⟨hguided, hfrontier⟩
  have hexec : exec .letterKey s = .next s.keyTaken.guidedRefusal.grant := by
    obtain ⟨hsolo, hroom⟩ | ⟨hplayer, hclose, hcount, hpending⟩ := hstate
    · rw [exec_letterKey_solo hwaits hcode hsolo, State.soloLetter,
        if_neg (show ¬ Config.attemptLimit ≤ s.keyTaken.attempt.landed.length from Nat.not_le.mpr hroom), if_pos hrefuses]
    · rw [exec_letterKey_player hwaits hcode hplayer, State.circleLetter,
        if_neg (show ¬ s.keyTaken.hasEntry .close = true from Bool.eq_false_iff.mp hclose),
        if_neg (show ¬ Config.attemptLimit ≤ s.keyTaken.attempt.count from Nat.not_le.mpr hcount),
        if_neg (show ¬ Config.pendingLimit ≤ s.keyTaken.attempt.pending.length from Nat.not_le.mpr hpending), if_pos hrefuses]
  rw [hexec]
  refine ⟨fun hfew => ?_, fun hmany => ⟨fun x hhint => ?_, fun hhint => ?_⟩⟩
  · rw [State.guidedRefusal_few hspeak' (by rwa [s.keyTaken_misses]), s.keyTaken_misses]
  · rw [State.guidedRefusal_hint (x := x) hspeak' (by rwa [s.keyTaken_misses]) hhint, s.keyTaken_assists]
    rfl
  · rw [State.guidedRefusal_noHint hspeak' (by rwa [s.keyTaken_misses]) hhint]

end Sys2Proof.Machine
end

section
/-! Erase, Repeat and Hint (R33, R48, R71, R72, R161), and the letter keys and Done of a circle player (R34, R160, R161). -/

namespace Sys2Proof.Machine

/-! ## Erase (R33, R161) -/

theorem exec_eraseKey_solo {s : State} (hwaits : s.keyWaits 26) (hstate : s.round.state = .soloOpen) :
    exec .eraseKey s = .next s.keyTaken.soloErase.grant := by
  refine (keyEvent_taken hwaits (by rw [hstate]; rfl) rfl).trans ?_
  simp [useErase, hstate]

theorem exec_eraseKey_player {s : State} (hwaits : s.keyWaits 26) (hstate : s.round.state = .circlePlayer) :
    exec .eraseKey s = .next (s.keyTaken.speakOwn [69]).grant := by
  refine (keyEvent_taken hwaits (by rw [hstate]; rfl) rfl).trans ?_
  simp [useErase, hstate, Config.phraseBuzz]

theorem popRow_tail {rows : List Row} (h : 2 ≤ rows.length) : popRow rows = rows.tail := by
  cases rows with
  | nil => rfl
  | cons row rows =>
    cases rows with
    | nil => simp at h
    | cons below rows => rfl

/-! ## Repeat (R71) -/

/-- What Repeat says, with the facts it leaves: the word and its sentence by turns, the word alone without one (R71). -/
theorem State.sayAgain_eq {s : State} {w : Nat} {r : WordRecord} (hword : s.round.word = some w)
    (hrecord : s.wordAt w = some r) :
    s.sayAgain = (s.setRound { s.round with
      nextRepeat := if s.round.nextRepeat = .word ∧ r.sentence ≠ none then .sentence else .word }).speakRound
        [if s.round.nextRepeat = .sentence then r.sentence.getD r.sayPhrase else r.sayPhrase] := by
  have hsay := s.sayPhrase_of_word hword hrecord
  have hsentence : s.sentencePhrase = r.sentence := by simp [State.sentencePhrase, hword, hrecord]
  have hsame : s.round.nextRepeat = .word → s.setRound { s.round with nextRepeat := .word } = s := by
    intro hnext
    rw [← hnext]
    rfl
  cases hnext : s.round.nextRepeat with
  | word =>
    cases hphrase : r.sentence with
    | none => simp [State.sayAgain, hnext, hsentence, hphrase, hsay, hsame hnext]
    | some p => simp [State.sayAgain, hnext, hsentence, hphrase, hsay]
  | sentence =>
    cases hphrase : r.sentence with
    | none => simp [State.sayAgain, hnext, hsentence, hphrase, hsay]
    | some p => simp [State.sayAgain, hnext, hsentence, hphrase]

theorem exec_repeatKey {s : State} (hwaits : s.keyWaits 28)
    (hstate : s.round.state = .soloOpen ∨ s.round.state = .circlePlayer) :
    exec .repeatKey s = .next s.keyTaken.sayAgain.grant := by
  refine (keyEvent_taken hwaits (by obtain h | h := hstate <;> rw [h] <;> rfl) rfl).trans ?_
  obtain h | h := hstate <;> simp [useRepeat, h]

/-! ## Hint (R48, R72) -/

theorem exec_hintKey {s : State} (hwaits : s.keyWaits 29)
    (hstate : s.round.state = .soloOpen ∨ s.round.state = .circlePlayer) :
    exec .hintKey s = .next s.keyTaken.giveHint.grant := by
  refine (keyEvent_taken hwaits (by obtain h | h := hstate <;> rw [h] <;> rfl) rfl).trans ?_
  obtain h | h := hstate <;> simp [useHint, h]

/-- What Hint says: no more hints, no letter to show, or the hint letter with its counts (R48, R72). -/
theorem State.giveHint_eq {s : State} (h : s.freeToSpeak) :
    (3 ≤ s.round.hints → s.giveHint.grant = s.saying .round 2 61 []) ∧
    (s.round.hints < 3 → s.hintLetter = none → s.giveHint.grant = s.saying .round 2 62 []) ∧
    (∀ x, s.hintLetter = some x → s.round.hints < 3 → s.giveHint.grant = ({ s with
      round := { s.round with hints := s.round.hints + 1, assists := min 255 (s.round.assists + 1) } } : State).saying
        .round 2 (if s.setup.letterVoice = .name then x else x + 26) []) := by
  refine ⟨fun hfull => ?_, fun hroom hhint => ?_, fun x hhint hroom => ?_⟩
  · rw [State.giveHint, if_pos hfull]
    exact h.round 61 (Nat.zero_le _)
  · rw [State.giveHint, if_neg (Nat.not_le.mpr hroom), hhint]
    exact h.round 62 (Nat.zero_le _)
  · rw [State.giveHint, if_neg (Nat.not_le.mpr hroom), hhint, ← letterPhrase_eq]
    exact State.freeToSpeak.round (s := s.setRound { s.round with
      hints := s.round.hints + 1, assists := raise 255 s.round.assists }) h _ (Nat.zero_le _)

/-- Settles O33: each key comes to its rule, and the voice is free for what it says. -/
theorem eraseRepeatHint : Obligations.EraseRepeatHint := by
  refine ⟨fun s hwaits hspeak => ⟨fun hstate hempty => ?_, fun hstate hletters hrows => ?_, fun hstate => ?_⟩,
    fun s hspeak hstate => ⟨fun hwaits w hword r hrecord => ?_, fun hwaits => ?_⟩⟩
  · rw [exec_eraseKey_solo hwaits hstate, State.soloErase, if_pos (show s.keyTaken.attempt.landed = [] from hempty)]
    exact congrArg Host.Outcome.next (State.freeToSpeak.own (s := s.keyTaken) hspeak 69 (Nat.zero_le _))
  · rw [exec_eraseKey_solo hwaits hstate, State.soloErase, if_neg (show ¬ s.keyTaken.attempt.landed = [] from hletters),
      ← popRow_tail hrows]
    exact congrArg Host.Outcome.next (State.freeToSpeak.own (s := { s.keyTaken with
      judge := { s.judge with rows := popRow s.judge.rows }
      attempt := { s.attempt with landed := s.attempt.landed.dropLast }
      round := { s.keyTaken.round with misses := 0 } }) hspeak 68 (Nat.zero_le _))
  · rw [exec_eraseKey_player hwaits hstate]
    exact congrArg Host.Outcome.next (State.freeToSpeak.own (s := s.keyTaken) hspeak 69 (Nat.zero_le _))
  · rw [exec_repeatKey hwaits hstate, State.sayAgain_eq (s := s.keyTaken) (s.keyTaken_word.trans hword) hrecord,
      s.keyTaken_nextRepeat]
    exact congrArg Host.Outcome.next (State.freeToSpeak.round (s := { s.keyTaken with
      round := { s.keyTaken.round with
        nextRepeat := if s.round.nextRepeat = .word ∧ r.sentence ≠ none then .sentence else .word } }) hspeak _
      (Nat.zero_le _))
  · obtain ⟨hfull, hnone, hgives⟩ := State.giveHint_eq (s := s.keyTaken) hspeak
    rw [s.keyTaken_hints] at hfull hnone
    simp only [s.keyTaken_hints, s.keyTaken_assists] at hgives
    rw [exec_hintKey hwaits hstate]
    exact ⟨fun h => congrArg Host.Outcome.next (hfull h), fun h hhint => congrArg Host.Outcome.next (hnone h hhint),
      fun x hhint h => congrArg Host.Outcome.next (hgives x hhint h)⟩

/-! ## Frames for the letters and Done of a circle player (R160, R161) -/

theorem exec_doneKey_player {s : State} (hwaits : s.keyWaits 27) (hstate : s.round.state = .circlePlayer) :
    exec .doneKey s = .next s.keyTaken.circleDone.grant := by
  refine (keyEvent_taken hwaits (by rw [hstate]; rfl) rfl).trans ?_
  simp [useDone, hstate]

/-- A frame whose kind has room in the transmit queue joins it (R140). -/
theorem State.queueFrame_room {s : State} {k : TxKind} (h : s.link.countKind k < k.limit) (body : List Byte) :
    s.queueFrame k body = s.setLink { s.link with
      queue := s.link.queue ++ [{ kind := k, body := body, sending := false }] } := by
  simp [State.queueFrame, h]

/-- No CLOSE entry in the queue leaves room for one (R140). -/
theorem State.countKind_of_hasEntry {s : State} {k : TxKind} (h : s.hasEntry k = false) : s.link.countKind k = 0 := by
  simpa [State.hasEntry, Link.countKind] using h

/-- A kept letter of a player: its row, its place among the pending letters, its LETTER frame, and a click (R160). -/
theorem State.keepPending_eq {s : State} {tag : Nat} (htag : s.round.tag = some tag)
    (hframes : s.link.countKind .letter < 3) (x : Nat) :
    s.keepPending x = ({ s with
      judge := { s.judge with rows := s.nextRow x :: s.judge.rows }
      attempt := { s.attempt with pending := s.attempt.pending ++ [x] }
      round := { s.round with misses := 0 }
      link := { s.link with queue := s.link.queue ++ [{
        kind := .letter, sending := false
        body := [Byte.of tag, Byte.of (s.attempt.count + 1), Byte.of x,
                 Byte.of (prefixCheck (s.attempt.letters ++ [x]))] }] } } : State).speakOwn [68] := by
  have hletters : ({ s.attempt with pending := s.attempt.pending ++ [x] } : Attempt).letters = s.attempt.letters ++ [x] := by
    simp [Attempt.letters]
  have hcount : ({ s.attempt with pending := s.attempt.pending ++ [x] } : Attempt).count = s.attempt.count + 1 := by
    simp [Attempt.count, Nat.add_assoc]
  have htag' : tag = s.round.tag.getD 0 := by rw [htag]; rfl
  rw [← hletters, ← hcount, htag']
  exact congrArg (State.speakOwn · [68]) (State.queueFrame_room (s := ((s.pushLetter x).setAttempt {
    s.attempt with pending := s.attempt.pending ++ [x] }).setMisses 0) hframes _)

/-- Settles O35: the rules of R160 and R161 line by line; what is kept or closed is queued as a frame. -/
theorem circleKeysQueueFrames : Obligations.CircleKeysQueueFrames := by
  refine ⟨fun s k hwaits hstate hcode hspeak => ?_, fun s hwaits hstate hspeak => ?_⟩
  · intro x row
    have hround : s.keyTaken.round = s.round := State.keyTaken_round (by simp [hstate])
    have hspeak' : s.keyTaken.freeToSpeak := hspeak
    rw [exec_letterKey_player hwaits hcode hstate, State.circleLetter]
    refine ⟨fun hclose => ?_, fun hclose hfull => ?_, fun hclose hroom hpending => ?_,
      fun tag htag hclose hroom hpending hframes hkept => ?_⟩
    · rw [if_pos (show s.keyTaken.hasEntry .close = true from hclose)]
      exact congrArg Host.Outcome.next (hspeak'.own 69 (Nat.zero_le _))
    · rw [if_neg (show ¬ s.keyTaken.hasEntry .close = true from Bool.eq_false_iff.mp hclose),
        if_pos (show Config.attemptLimit ≤ s.keyTaken.attempt.count from hfull)]
      exact congrArg Host.Outcome.next (hspeak'.own 66 (Nat.zero_le _))
    · rw [if_neg (show ¬ s.keyTaken.hasEntry .close = true from Bool.eq_false_iff.mp hclose),
        if_neg (show ¬ Config.attemptLimit ≤ s.keyTaken.attempt.count from Nat.not_le.mpr hroom),
        if_pos (show Config.pendingLimit ≤ s.keyTaken.attempt.pending.length from hpending)]
      exact congrArg Host.Outcome.next (hspeak'.own 69 (Nat.zero_le _))
    · have hrefuses : ¬ s.keyTaken.guidedRefuses (k + 1) = true := by
        rw [State.guidedRefuses_eq]
        rintro ⟨hguided, hfrontier⟩
        exact hkept.elim (fun hstyle => hstyle hguided) hfrontier
      rw [if_neg (show ¬ s.keyTaken.hasEntry .close = true from Bool.eq_false_iff.mp hclose),
        if_neg (show ¬ Config.attemptLimit ≤ s.keyTaken.attempt.count from Nat.not_le.mpr hroom),
        if_neg (show ¬ Config.pendingLimit ≤ s.keyTaken.attempt.pending.length from Nat.not_le.mpr hpending),
        if_neg hrefuses, State.keepPending_eq (s := s.keyTaken) (s.keyTaken_tag.trans htag) hframes, hround]
      refine congrArg Host.Outcome.next (State.freeToSpeak.own ?_ 68 (Nat.zero_le _))
      exact hspeak
  · have hspeak' : s.keyTaken.freeToSpeak := hspeak
    rw [exec_doneKey_player hwaits hstate, State.circleDone]
    refine ⟨fun hclose => ?_, fun hclose hnone => ?_, fun tag htag hclose hletters => ?_⟩
    · rw [if_pos (show s.keyTaken.hasEntry .close = true from hclose)]
      exact congrArg Host.Outcome.next (hspeak'.own 69 (Nat.zero_le _))
    · rw [if_neg (show ¬ s.keyTaken.hasEntry .close = true from Bool.eq_false_iff.mp hclose),
        if_pos (show s.keyTaken.attempt.count = 0 from hnone)]
      exact congrArg Host.Outcome.next (hspeak'.own 65 (Nat.zero_le _))
    · have hframes : s.link.countKind .close < TxKind.close.limit := by
        rw [State.countKind_of_hasEntry hclose]
        decide
      rw [if_neg (show ¬ s.keyTaken.hasEntry .close = true from Bool.eq_false_iff.mp hclose),
        if_neg (show ¬ s.keyTaken.attempt.count = 0 from Nat.ne_of_gt hletters),
        State.queueFrame_room (s := s.keyTaken) hframes, s.keyTaken_tag, htag]
      refine congrArg Host.Outcome.next (State.freeToSpeak.own ?_ 68 (Nat.zero_le _))
      exact hspeak

end Sys2Proof.Machine
end

section
/-! The List Loader's transfers (R3 to R7, R100): a load's end, the next transfer of a load, its beginning and its cut-off. -/

namespace Sys2Proof.Machine

/-! ## The end of a transfer (R99) -/

theorem transferEvent_ends {s : State} {t : Transfer} {fits : TransferKind → Bool} (hport : s.port.inFlight = some t)
    (hfits : fits t.kind = true) (hand : Transfer → State → State) :
    transferEvent s fits hand = .next (hand t s.transferEnds).grant := by
  simp [transferEvent, hport, hfits]

/-- A record posted on a state with the same Report Queue and flags changes them alike. -/
theorem State.post_of_reports {s t : State} (hreports : t.reports = s.reports) (hflags : t.flags = s.flags) (r : Record) :
    t.post r = { t with reports := (s.post r).reports, flags := (s.post r).flags } := by
  rw [State.post, State.post, hreports]
  split
  · rw [show (s.setReports (s.reports ++ [r])).flags = t.flags from hflags.symm]
    rfl
  · simp [State.setFlags, hreports, hflags]

/-! ## A load's end and its next transfer (R4 to R6, R10, R17) -/

/-- A load that keeps its records, with some taken: the table is READY (R6, R10, R17). -/
theorem State.loadEnded_ready {s : State} {o : LoadOutcome} (hkeeps : o.keepsRecords = true) (i : BitVec 16)
    (hrecords : s.words.records ≠ []) :
    s.loadEnded o i = { s with
      loader := none, progress := List.replicate 64 { box := 0, rest := 0 }, previous := none
      words := { s.words with state := .ready, identity := i } } := by
  simp [State.loadEnded, hkeeps, hrecords, Config.wordLimit]

/-- A load that would keep its records but has taken none: the table is EMPTY (R6). -/
theorem State.loadEnded_none {s : State} {o : LoadOutcome} (hkeeps : o.keepsRecords = true) (i : BitVec 16)
    (hrecords : s.words.records = []) :
    s.loadEnded o i = { s with
      loader := none, progress := List.replicate 64 { box := 0, rest := 0 }, previous := none
      words := { state := .empty, identity := 0, records := [] } } := by
  simp [State.loadEnded, hkeeps, hrecords, Config.wordLimit]

/-- A load that discards its records (R6, R7). -/
theorem State.loadEnded_discards {s : State} {o : LoadOutcome} (hkeeps : o.keepsRecords = false) (i : BitVec 16) :
    s.loadEnded o i = { s with loader := none, words := { state := .empty, identity := 0, records := [] } } := by
  simp [State.loadEnded, hkeeps]

/-- The end of a load at the end of a transfer, with the port's next grant (R6, R98). -/
theorem State.endLoad_grant {s u : State} (hport : u.port = s.transferEnds.port) (hreports : u.reports = s.reports)
    (hflags : u.flags = s.flags) (o : LoadOutcome) (i : BitVec 16) :
    (u.endLoad o i).grant =
      let record := Record.list o (u.loadEnded o i).words.records.length
      { u.loadEnded o i with
        port := s.transferEnds.grant.port, reports := (s.post record).reports, flags := (s.post record).flags } := by
  have hend : (u.endLoad o i).port = s.transferEnds.port := by
    rw [State.endLoad_eq]
    simpa [State.loadEnded] using hport
  rw [State.grant_of_port_eq hend, State.endLoad_eq]
  rw [State.post_of_reports (t := u.loadEnded o i) (s := s) hreports hflags]
  rfl

/-- A load that goes on at the end of its transfer asks for the transfer its new phase calls for (R4, R5, R98). -/
theorem State.loaderAsks_grant {s u : State} (hport : u.port = s.transferEnds.port)
    (hwaiting : s.port.waiting.any (fun t => t.requester == .loader) = false) (l : Load) :
    (u.setLoader (some l)).loaderAsks.grant =
      { u with loader := some l, port := s.transferEnds.portAsked .loader l.asks } := by
  have hfree : (u.setLoader (some l)).hasTransfer .loader = false :=
    (State.hasTransfer_congr (s := s.transferEnds) hport _).trans (State.transferEnds_hasTransfer hwaiting)
  have hasked : (u.setLoader (some l)).portAsked = s.transferEnds.portAsked := State.portAsked_congr hport
  rw [State.loaderAsks_of_free (s := u.setLoader (some l)) rfl hfree, State.grant_ask, hasked]
  rfl

/-! ## A count byte and a body (R1, R5, R10, R17) -/

theorem exec_countByteTransfer {s : State} {l : Load} {t : Transfer} (hl : s.loader = some l)
    (hport : s.port.inFlight = some t) (hkind : t.kind.isCountByte = true) (hkept : t.discarded = false) (m : Byte) :
    exec (.countByteTransfer m) s = .next (takeCountByte m l s.transferEnds).grant := by
  show execCountByteTransfer m s = _
  rw [execCountByteTransfer, transferEvent_ends hport hkind]
  simp [State.loaderTakes, hkept, hl]

theorem exec_bodyTransfer {s : State} {l : Load} {t : Transfer} (hl : s.loader = some l)
    (hport : s.port.inFlight = some t) (hkind : t.kind.isBody = true) (hkept : t.discarded = false) (bytes : List Byte) :
    exec (.bodyTransfer bytes) s = .next (takeBody bytes l s.transferEnds).grant := by
  show execBodyTransfer bytes s = _
  rw [execBodyTransfer, transferEvent_ends hport hkind]
  simp [State.loaderTakes, hkept, hl]

/-- A body adds its record; the last one to take ends the load, and before it the next count byte is asked for (R5). -/
theorem takeBody_eq {l : Load} {m : Nat} (hphase : l.phase = .body m) (bytes : List Byte) (s : State) :
    takeBody bytes l s =
      if l.toTake ≤ s.words.records.length + 1 then
        (s.setWords { s.words with records := s.words.records ++ [recordOf m bytes] }).endLoad
          (if l.cut then .truncated else .loaded) l.identity
      else ((s.setWords { s.words with records := s.words.records ++ [recordOf m bytes] }).setLoader
        (some { l with phase := .countByte, address := l.address + (m + 4) })).loaderAsks := by
  have hcount : (s.words.records ++ [recordOf m bytes]).length = s.words.records.length + 1 := by simp
  rw [← hcount]
  simp only [takeBody, hphase]
  rfl

/-- The letter codes of a body are its first bytes (R1). -/
theorem bodyLetters_eq {m : Nat} {bytes : List Byte} (h : bytes.length = m + 4) :
    bodyLetters m bytes = (bytes.take m).map (·.toNat) := by
  refine List.ext_getElem (by simp [bodyLetters, h]) (fun i h1 h2 => ?_)
  have hi : i < bytes.length := by simp [bodyLetters] at h1; omega
  simp [bodyLetters, byteAt, List.getElem?_eq_getElem hi]

/-- Settles O18: a count byte is checked, and a body's record is the last to take or not. -/
theorem recordTaken : Obligations.RecordTaken := by
  intro s l hl hwaiting
  refine ⟨fun t hport m _ hkind hkept => ?_, fun t hport m bytes _ hkind hkept hphase hlength => ?_⟩
  · rw [exec_countByteTransfer hl hport hkind hkept]
    refine ⟨fun hcount hempty => ?_, fun hcount hrecords => ?_, fun hlow hhigh => ?_⟩
    · rw [takeCountByte, if_pos hcount, State.endLoad_grant (s := s) (u := s.transferEnds) rfl rfl rfl,
        State.loadEnded_none (s := s.transferEnds) rfl _ hempty]
      simp only [State.post_keeps]
      rfl
    · rw [takeCountByte, if_pos hcount, State.endLoad_grant (s := s) (u := s.transferEnds) rfl rfl rfl,
        State.loadEnded_ready (s := s.transferEnds) rfl _ hrecords]
      simp only [State.post_keeps]
      rfl
    · rw [takeCountByte, if_neg (by omega), State.loaderAsks_grant (s := s) rfl hwaiting]
      rfl
  · intro r
    have hrecord : recordOf m bytes = r := by
      simp only [recordOf, bodyLetters_eq hlength, r, word16At, sentenceOf, List.all_map]
      rfl
    rw [exec_bodyTransfer hl hport hkind hkept, takeBody_eq hphase, hrecord]
    refine ⟨fun hmore => ?_, fun hlast => ?_⟩
    · rw [if_neg (show ¬ l.toTake ≤ s.transferEnds.words.records.length + 1 from Nat.not_le.mpr hmore)]
      exact congrArg Host.Outcome.next
        (State.loaderAsks_grant (u := s.transferEnds.setWords { s.words with records := s.words.records ++ [r] }) rfl
          hwaiting _)
    · rw [if_pos (show l.toTake ≤ s.transferEnds.words.records.length + 1 from hlast)]
      have hkeeps : (if l.cut = true then LoadOutcome.truncated else LoadOutcome.loaded).keepsRecords = true := by
        split <;> rfl
      have hrecords : s.words.records ++ [r] ≠ [] := by simp
      refine congrArg Host.Outcome.next ((State.endLoad_grant (s := s)
        (u := s.transferEnds.setWords { s.words with records := s.words.records ++ [r] }) rfl rfl rfl _ _).trans ?_)
      rw [State.loadEnded_ready hkeeps _ hrecords]
      have hcount : (s.words.records ++ [r]).length = s.words.records.length + 1 := by simp
      rw [← hcount]
      simp only [State.post_keeps]
      rfl

/-! ## LOAD LIST and the cut-off of a load (R3, R7, R100) -/

/-- The state of a load that begins, before it asks for its header (R3, log 38). -/
def State.loadBegun (s : State) : State :=
  { s with
    words := { state := .loading, identity := 0, records := [] }
    loader := some { phase := .header, address := 0, wordCount := 0, toTake := 0, cut := false, identity := 0 } }

theorem loadListRequest_started {s : State} (hidle : s.round.state = .idle) (hloading : s.words.state ≠ .loading)
    (seated : Bool) (args : List Byte) :
    loadListRequest seated args s = (if seated then s.loadBegun.loaderAsks else s.loadBegun.endLoad .absent 0,
      { code := 2, outcome := .started, adjusted := args.length != 0, data := [] }) := by
  rw [loadListRequest, if_neg (by simp [hidle, hloading])]
  rfl

/-- A load that ends ABSENT leaves no list, and its LIST record (R6, R7). -/
theorem State.endLoad_absent (s : State) :
    s.endLoad .absent 0 = { s.post (.list .absent 0) with
      words := { state := .empty, identity := 0, records := [] }, loader := none } := by
  rw [State.endLoad_eq, State.loadEnded_discards rfl, State.post_of_reports (s := s) (t := { s with
    loader := none, words := { state := .empty, identity := 0, records := [] } }) rfl rfl]
  simp only [State.post_keeps]
  rfl

/-- A transfer of the loader whose bytes are thrown away ends nothing: a new load makes its request then (R7, R100). -/
theorem loaderTransfer_discarded {s : State} {t : Transfer} (hport : s.port.inFlight = some t)
    (hdiscarded : t.discarded = true) (bytes : List Byte) (m : Byte) :
    (t.kind = .header → exec (.headerTransfer bytes) s = .next s.transferEnds.loaderAsks.grant) ∧
    (t.kind.isCountByte = true → exec (.countByteTransfer m) s = .next s.transferEnds.loaderAsks.grant) ∧
    (t.kind.isBody = true → exec (.bodyTransfer bytes) s = .next s.transferEnds.loaderAsks.grant) := by
  have htakes (take : Load → State → State) : s.transferEnds.loaderTakes t take = s.transferEnds.loaderAsks := by
    simp [State.loaderTakes, hdiscarded]
  refine ⟨fun hkind => ?_, fun hkind => ?_, fun hkind => ?_⟩
  · show execHeaderTransfer bytes s = _
    rw [execHeaderTransfer, transferEvent_ends hport (by simp [hkind]), htakes]
  · show execCountByteTransfer m s = _
    rw [execCountByteTransfer, transferEvent_ends hport hkind, htakes]
  · show execBodyTransfer bytes s = _
    rw [execBodyTransfer, transferEvent_ends hport hkind, htakes]

/-- Settles O16: LOAD LIST by its check and the seated cartridge, the removal by the table's state, and what is left of a load
cut off. -/
theorem loadBeginsAndIsCutOff : Obligations.LoadBeginsAndIsCutOff := by
  constructor
  · intro s args h reply load
    refine ⟨fun hbusy seated => ?_, fun hidle hloading hfree => ?_, fun hidle hloading hheld => ?_,
      fun hidle hloading => ?_⟩
    · refine (request_answered h (run := loadListRequest seated args) ?_)
      simp only [loadListRequest]
      rw [if_pos (by simpa using hbusy)]
      rfl
    · have hrun := loadListRequest_started (s := s.heard) (by simpa using hidle) (by simpa using hloading) true args
      have hfree' : s.heard.loadBegun.hasTransfer .loader = false :=
        (State.hasTransfer_congr (s := s) s.heard_port _).trans hfree
      rw [if_pos rfl, State.loaderAsks_of_free (s := s.heard.loadBegun) rfl hfree'] at hrun
      refine (request_asking h hrun (s.heard_ask_port _ _)).trans ?_
      simp only [State.loadBegun, State.ask, State.setPort, State.setAnswer, State.heard_keeps]
      rfl
    · have hrun := loadListRequest_started (s := s.heard) (by simpa using hidle) (by simpa using hloading) true args
      have hheld' : s.heard.loadBegun.hasTransfer .loader = true :=
        (State.hasTransfer_congr (s := s) s.heard_port _).trans hheld
      have hasks : s.heard.loadBegun.loaderAsks = s.heard.loadBegun := if_pos hheld'
      rw [if_pos rfl, hasks] at hrun
      exact request_settled h hrun s.heard_port
    · have hrun := loadListRequest_started (s := s.heard) (by simpa using hidle) (by simpa using hloading) false args
      rw [if_neg Bool.false_ne_true, State.endLoad_absent, State.post_of_reports (s := s.heard) (t := s.heard.loadBegun) rfl rfl]
        at hrun
      refine (request_settled h hrun (by simp [State.loadBegun])).trans ?_
      simp only [State.setAnswer, State.loadBegun, State.post_keeps]
      rfl
  · intro s
    refine ⟨fun hloading => ?_, fun hloading => ?_, fun t hport bytes m _ hdiscarded hl => ?_, ?_⟩
    · show execCartridgeRemoved s = _
      rw [execCartridgeRemoved, if_pos hloading, State.endLoad_absent,
        State.post_of_reports (s := s) (t := s.withdraw .loader) rfl rfl]
      simp only [State.post_keeps]
      rfl
    · exact if_neg hloading
    · have hasks : s.transferEnds.loaderAsks = s.transferEnds := by
        show (match s.loader with | none => _ | some l => _) = _
        rw [hl]
      rw [← hasks]
      exact loaderTransfer_discarded hport hdiscarded bytes m
    · intro t hport bytes m _ hdiscarded hwaiting l hl hphase asked
      have hasks : s.transferEnds.loaderAsks.grant = asked := by
        rw [State.loaderAsks_of_free (s := s.transferEnds) hl (State.transferEnds_hasTransfer hwaiting), State.grant_ask,
          Load.asks, hphase]
        rfl
      rw [← hasks]
      exact loaderTransfer_discarded hport hdiscarded bytes m

end Sys2Proof.Machine
end

section
/-! The letter table read (R94), and the speech requests SAY and SPELL (R95, R96, R104, R109, R175, R176). -/

namespace Sys2Proof.Machine

/-! ## The letter table read (R94) -/

/-- An entry of the letter table is written at the end of a transfer, and the read asks for the next phrase's directory entry,
or has ended after phrase 52 (R94). -/
theorem State.writeLetter_grant (s : State) (r : LetterRead) (e : LetterEntry) :
    (s.transferEnds.writeLetter r e).grant = { s with
      store := { s.store with
        letters := s.store.letters.set (r.phrase - 1) e
        reader := if r.phrase < 52 then some { phrase := r.phrase + 1, address := none } else none }
      port := if r.phrase < 52 then s.transferEnds.portAsked .letterTable (.phraseDirectory (r.phrase + 1))
              else s.transferEnds.grant.port } := by
  by_cases hmore : r.phrase < 52
  · let u := s.transferEnds.setStore { s.store with
      letters := s.store.letters.set (r.phrase - 1) e, reader := some { phrase := r.phrase + 1, address := none } }
    have hasked : u.portAsked = s.transferEnds.portAsked := State.portAsked_congr rfl
    have hwrite : s.transferEnds.writeLetter r e = u.ask .letterTable (.phraseDirectory (r.phrase + 1)) := by
      simp only [State.writeLetter, Config.letterPhrases, if_pos hmore]
      rfl
    rw [hwrite, State.grant_ask, hasked, if_pos hmore, if_pos hmore]
    rfl
  · let u := s.transferEnds.setStore { s.store with letters := s.store.letters.set (r.phrase - 1) e, reader := none }
    have hwrite : s.transferEnds.writeLetter r e = u := by
      simp only [State.writeLetter, Config.letterPhrases, if_neg hmore]
      rfl
    rw [hwrite, State.grant_of_port_eq (s := s.transferEnds) (t := u) rfl, if_neg hmore, if_neg hmore]
    rfl

/-- Settles O20: an empty directory entry and a descriptor write the phrase's entry, another directory entry asks for its
descriptor. -/
theorem letterTableRead : Obligations.LetterTableRead := by
  intro s r hreader t hport bytes hrequester hwaiting next
  have hentry (hkind : t.kind.isPhraseDirectory = true) :
      exec (.phraseDirectoryFetch bytes) s = .next (s.transferEnds.readerTakesEntry (addressAt bytes 0)).grant := by
    show execPhraseDirectoryFetch bytes s = _
    rw [execPhraseDirectoryFetch, transferEvent_ends hport hkind, handPhraseEntry, hrequester]
  have hreader' : s.transferEnds.store.reader = some r := hreader
  refine ⟨fun hkind hempty => ?_, fun hkind haddress => ?_, fun hkind => ?_⟩
  · rw [hentry hkind, State.readerTakesEntry, hreader']
    simp only
    rw [if_pos (show addressAt bytes 0 = Config.emptyAddress from hempty), State.writeLetter_grant]
  · let u := s.transferEnds.setStore { s.store with reader := some { r with address := some (addressAt bytes 0) } }
    have hasks : s.transferEnds.readerTakesEntry (addressAt bytes 0) = u.ask .letterTable (.romDescriptor (addressAt bytes 0)) := by
      rw [State.readerTakesEntry, hreader']
      exact if_neg haddress
    have hasked : u.portAsked = s.transferEnds.portAsked := State.portAsked_congr rfl
    rw [hentry hkind, hasks, State.grant_ask, hasked]
    rfl
  · have hdescriptor : exec (.romDescriptorFetch bytes) s =
        .next (s.transferEnds.readerTakesDescriptor (descriptorOf bytes)).grant := by
      show execRomDescriptorFetch bytes s = _
      rw [execRomDescriptorFetch, transferEvent_ends hport hkind, handDescriptor, hrequester]
    rw [hdescriptor, State.readerTakesDescriptor, hreader']
    simp only
    rw [State.writeLetter_grant]
    rfl

/-! ## SAY (R104, R109, R175) -/

/-- The end of an unmarked phrase posts its SPOKEN record when it carries a tag, and does nothing else (R120). -/
theorem State.endEntry_phrase {e : Entry} {p : Nat} (hstart : e.start = .phrase p) (hmark : e.markNo = none) (s : State)
    (o : SpokenOutcome) :
    s.endEntry false e o = if e.tag = 0 then s else s.post (.spoken e.tag o) := by
  by_cases htag : e.tag = 0 <;> simp [State.endEntry, State.freeUtterance, hstart, hmark, htag]

/-- An entry offered to a full queue that holds none of lower priority is dropped (R104). -/
theorem State.offer_drops {s : State} {v : VoiceId} {e : Entry} (hcurrent : (s.voice v).current ≠ none)
    (hfull : 6 ≤ (s.voice v).queue.length) (hlower : ∀ d ∈ (s.voice v).queue, e.priority ≤ d.priority) :
    s.offer v e = (s.endEntry false e .dropped, false) := by
  have hnone : youngestBelow e.priority (s.voice v).queue = none := by
    simpa [youngestBelow, List.find?_eq_none] using hlower
  cases hx : (s.voice v).current with
  | none => exact absurd hx hcurrent
  | some c =>
    simp only [State.offer, hx]
    rw [if_neg (show ¬ (s.voice v).queue.length < Config.speechQueueLimit from Nat.not_lt.mpr hfull), hnone]

/-- The run of a SAY in SPLIT mode: one entry, offered to voice A (R106, R175). -/
theorem sayRequest_split {s : State} (hmode : s.setup.voiceMode = .split) (args : List Byte) :
    sayRequest args s = ((s.offer .A (s.sayEntry args)).1, {
      code := 6, outcome := offerOutcome (s.offer .A (s.sayEntry args)).2, data := []
      adjusted := decide (args.length ≠ 4 ∨ 511 < word16At args 0 ∨ 3 < byteAt args 2) }) := by
  have hadjusted : (countAdjusted 4 args || clamped 0 511 (word16At args 0) || clamped 0 3 (byteAt args 2)) =
      decide (args.length ≠ 4 ∨ 511 < word16At args 0 ∨ 3 < byteAt args 2) := by
    rw [clamped_zero, clamped_zero, countAdjusted]
    simp [Bool.or_assoc, bne, beq_eq_decide]
  simp only [sayRequest, State.assign_split hmode (source := .controller) nofun, hadjusted]
  rfl

theorem State.sayEntry_eq (s : State) (args : List Byte) :
    s.sayEntry args = { source := .controller, priority := min 3 (byteAt args 2)
                        start := .phrase (min 511 (word16At args 0)), pitch := s.setup.ownPitch, tag := byteAt args 3
                        markNo := none } := by
  simp only [State.sayEntry, clamp_zero]

/-- SAY in SPLIT mode, by what its entry meets at voice A (R104, R109, R175). -/
theorem exec_say_split {s : State} {args : List Byte} (h : s.takesRequest) (hmode : s.setup.voiceMode = .split) :
    let e := s.sayEntry args
    let reply (o : ReplyOutcome) : Option Reply := some {
      code := 6, outcome := o, data := []
      adjusted := decide (args.length ≠ 4 ∨ 511 < word16At args 0 ∨ 3 < byteAt args 2) }
    (s.voiceFree .A → exec (.say args) s = .next { s.heard with
      voiceA := s.speaking .A e [], port := s.portAsked (.voice .A) (.phraseDirectory (min 511 (word16At args 0)))
      answer := reply .queued }) ∧
    (s.voiceA.current ≠ none → s.voiceA.queue.length < 6 → exec (.say args) s = .next { s.heard with
      voiceA := { s.voiceA with queue := s.voiceA.queue ++ [e] }, answer := reply .queued }) ∧
    (s.voiceA.current ≠ none → 6 ≤ s.voiceA.queue.length → (∀ d ∈ s.voiceA.queue, e.priority ≤ d.priority) →
      exec (.say args) s = .next { (if e.tag = 0 then s.heard else s.heard.post (.spoken e.tag .dropped)) with
        answer := reply .dropped }) := by
  intro e reply
  have hentry : s.heard.sayEntry args = e := by simp [State.sayEntry, e]
  have hrun := sayRequest_split (s := s.heard) (by simpa using hmode) args
  rw [hentry] at hrun
  have hvoice : s.heard.voice .A = s.voiceA := by simp [State.voice]
  refine ⟨fun hfree => ?_, fun hcurrent hroom => ?_, fun hcurrent hfull hlower => ?_⟩
  · obtain ⟨hspeaking, -, -⟩ := s.heard_speech
    rw [State.offer_free ((s.heard_voiceFree .A).mpr hfree) (congrArg Entry.start (s.sayEntry_eq args)), hspeaking] at hrun
    refine (request_asking h hrun (s.heard_ask_port _ _)).trans ?_
    simp only [State.setVoice, State.setVoiceA, State.ask, State.setPort, State.setAnswer, State.heard_keeps]
    rfl
  · rw [State.offer_joins e (by rwa [hvoice]) (by rwa [hvoice]), hvoice] at hrun
    refine (request_settled h hrun ((State.setVoice_port _ _ _).trans s.heard_port)).trans ?_
    simp only [State.setVoice, State.setVoiceA, State.setAnswer, State.heard_keeps]
    rfl
  · have hend : s.heard.endEntry false e .dropped =
        if e.tag = 0 then s.heard else s.heard.post (.spoken e.tag .dropped) :=
      State.endEntry_phrase (congrArg Entry.start (s.sayEntry_eq args)) (congrArg Entry.markNo (s.sayEntry_eq args)) _ _
    rw [State.offer_drops (by rwa [hvoice]) (by rwa [hvoice]) (by rwa [hvoice]), hend] at hrun
    refine request_settled h hrun ?_
    split <;> simp

/-! ## SPELL (R95, R96, R176) -/

theorem State.heard_freeSlots (s : State) : s.heard.store.freeSlots = s.store.freeSlots := by simp

/-- With no free slot nothing is composed (R96). -/
theorem State.compose_full {s : State} (h : s.store.freeSlots = []) (letters : List Nat) :
    s.compose letters = (s, none) := by
  simp [State.compose, h]

/-- One to three letters take the lowest free slot (R95). -/
theorem State.compose_short {s : State} {n : Nat} {letters : List Nat} (hfree : s.store.freeSlots.head? = some n)
    (hsome : 1 ≤ letters.length) (hfew : letters.length ≤ 3) :
    s.compose letters = (s.setStore (s.store.write n (some {
      pairs := spellingPairs (letters.map (fun x => s.store.letterPair (letterPhrase s.setup.letterVoice x)))
      link := 0 })), some { head := n, letters := letters.length }) := by
  obtain ⟨rest, hrest⟩ := List.head?_eq_some_iff.mp hfree
  have hneeded : (letters.length + 2) / 3 = 1 := by omega
  have hall : letters.take 3 = letters := List.take_of_length_le hfew
  have hpairs : (letters.map (fun x => s.store.letterPair (letterPhrase s.setup.letterVoice x))).take 3 =
      letters.map (fun x => s.store.letterPair (letterPhrase s.setup.letterVoice x)) :=
    List.take_of_length_le (by simpa using hfew)
  simp [State.compose, hrest, hneeded, hall, writeSpelling, hpairs]

theorem State.spellCheck_ready {s : State} {w : Nat} {r : WordRecord} (hready : s.words.state = .ready)
    (hword : s.wordAt w = some r) : s.spellCheck w = if r.usable then none else some .refused := by
  have hlength : ¬ s.words.records.length ≤ w := by
    intro hout
    simp [State.wordAt, List.getElem?_eq_none hout] at hword
  cases husable : r.usable <;> simp [State.spellCheck, hready, hlength, State.usable, hword, husable]

theorem State.heard_spellCheck (s : State) (w : Nat) : s.heard.spellCheck w = s.spellCheck w := by
  simp [State.spellCheck, s.heard_usable]

/-- A SPELL that fails a check changes nothing but the answer slot (R176). -/
theorem exec_spell_checked {s : State} {args : List Byte} (h : s.takesRequest) {o : ReplyOutcome}
    (hcheck : s.spellCheck (byteAt args 0) = some o) :
    exec (.spell args) s = .next { s.heard with
      answer := some { code := 7, outcome := o, adjusted := args.length != 2, data := [] } } := by
  refine request_answered h (run := spellRequest args) ?_
  simp only [spellRequest, s.heard_spellCheck, hcheck]
  rfl

/-- The run of a SPELL whose checks pass (R95, R96, R176). -/
theorem spellRequest_composes {s : State} {args : List Byte} {r : WordRecord}
    (hcheck : s.spellCheck (byteAt args 0) = none) (hword : s.wordAt (byteAt args 0) = some r) :
    (∀ t, s.compose r.letters = (t, none) →
      spellRequest args s = (if byteAt args 1 = 0 then t else t.post (.spoken (byteAt args 1) .dropped),
        { code := 7, outcome := .dropped, adjusted := args.length != 2, data := [0] })) ∧
    (∀ t x, s.compose r.letters = (t, some x) →
      let offered := t.offer (t.assign .controller)
        { t.entry .controller 1 (.slot x.head) false with tag := byteAt args 1 }
      spellRequest args s = (offered.1, {
        code := 7, outcome := offerOutcome offered.2, adjusted := args.length != 2, data := [Byte.of x.letters] })) := by
  refine ⟨fun t hcompose => ?_, fun t x hcompose => ?_⟩
  · simp only [spellRequest, hcheck, hword, Option.map_some, Option.getD_some, hcompose]
    rw [ite_not]
    rfl
  · simp only [spellRequest, hcheck, hword, Option.map_some, Option.getD_some, hcompose]
    rfl

/-- Settles O13: SAY by what its entry meets at voice A, SPELL by its checks and the free slots. -/
theorem speechRequestsOffer : Obligations.SpeechRequestsOffer := by
  constructor
  · intro s args h hmode e reply
    have he : s.sayEntry args = e := s.sayEntry_eq args
    have hsay := exec_say_split (args := args) h hmode
    rw [he] at hsay
    exact hsay
  · intro s args h w tag reply
    refine ⟨fun hloading => ?_, fun hempty => ?_, fun hready hnone => ?_, fun r hword hready husable => ?_,
      fun r hword hready husable hslots => ?_, fun r hword n hslot hready husable hsome hfew hmode hcurrent hroom => ?_⟩
    · exact exec_spell_checked h (by simp [State.spellCheck, hloading])
    · exact exec_spell_checked h (by simp [State.spellCheck, hempty])
    · have hlength : s.words.records.length ≤ byteAt args 0 := by simpa [State.wordAt] using hnone
      exact exec_spell_checked h (by simp [State.spellCheck, hready, hlength])
    · exact exec_spell_checked h ((State.spellCheck_ready hready hword).trans (by simp [husable]))
    · have hcheck : s.heard.spellCheck w = none := by
        rw [s.heard_spellCheck, State.spellCheck_ready hready hword, if_pos husable]
      obtain ⟨hdrops, -⟩ := spellRequest_composes hcheck ((s.heard_wordAt w).trans hword)
      have hrun := hdrops s.heard (State.compose_full (s.heard_freeSlots.trans hslots) _)
      refine request_settled h hrun ?_
      split <;> simp
    · have hcheck : s.heard.spellCheck w = none := by
        rw [s.heard_spellCheck, State.spellCheck_ready hready hword, if_pos husable]
      obtain ⟨-, hoffers⟩ := spellRequest_composes hcheck ((s.heard_wordAt w).trans hword)
      let t := s.heard.setStore (s.store.write n (some {
        pairs := spellingPairs (r.letters.map (fun x => s.store.letterPair (letterPhrase s.setup.letterVoice x)))
        link := 0 }))
      have hcompose : s.heard.compose r.letters = (t, some { head := n, letters := r.letters.length }) := by
        rw [State.compose_short (s.heard_freeSlots.symm ▸ hslot) hsome hfew]
        simp only [State.heard_keeps]
        rfl
      have hvoice : t.voice .A = s.voiceA := by simp [State.voice, t, State.setStore]
      have hassign : t.assign .controller = .A := State.assign_split (by simpa [t] using hmode) nofun
      have hrun := hoffers _ _ hcompose
      rw [hassign, State.offer_joins _ (by rwa [hvoice]) (by rwa [hvoice]), hvoice] at hrun
      refine (request_settled h hrun ((State.setVoice_port _ _ _).trans s.heard_port)).trans ?_
      simp only [t, State.setVoice, State.setVoiceA, State.setStore, State.setAnswer, State.entry, State.heard_keeps]
      rfl

end Sys2Proof.Machine
end

section
/-! Offers and the order of a speech queue (R103 to R108), and STOP (R118 to R121, R177). -/

namespace Sys2Proof.Machine

/-! ## The order of a speech queue (R103) -/

theorem filter_eq_nil_of_forall {α : Type} {f : α → Bool} {l : List α} (h : ∀ x ∈ l, f x = false) : l.filter f = [] :=
  List.filter_eq_nil_iff.mpr (fun x hx => by simp [h x hx])

/-- The oldest entry of highest priority is the head of a queue held in join order (R103, log 14). -/
theorem queueHead_oldest {before after : List Entry} {e : Entry} (hpriority : e.priority ≤ 3)
    (hbefore : ∀ d ∈ before, d.priority < e.priority) (hafter : ∀ d ∈ after, d.priority ≤ e.priority) :
    queueHead (before ++ e :: after) = some e := by
  have hall : ∀ d ∈ before ++ e :: after, d.priority ≤ e.priority := by
    intro d hd
    obtain hd | hd := List.mem_append.mp hd
    · exact Nat.le_of_lt (hbefore d hd)
    · obtain rfl | hd := List.mem_cons.mp hd
      · exact le_refl _
      · exact hafter d hd
  have habove : e.priority < 3 → (before ++ e :: after).filter (fun f => decide (3 ≤ f.priority)) = [] := by
    intro hlow
    refine filter_eq_nil_of_forall (fun d hd => ?_)
    have := hall d hd
    simp
    omega
  have hclass : ∀ p, e.priority < p → (before ++ e :: after).filter (fun f => f.priority == p) = [] := by
    intro p hlow
    refine filter_eq_nil_of_forall (fun d hd => ?_)
    have := hall d hd
    simp
    omega
  have hown : ∀ f : Entry → Bool, f e = true → (∀ d : Entry, d.priority < e.priority → f d = false) →
      (before ++ e :: after).filter f = e :: after.filter f := by
    intro f hf hlower
    rw [List.filter_append, filter_eq_nil_of_forall (fun d hd => hlower d (hbefore d hd)), List.filter_cons_of_pos hf]
    rfl
  have hcases : e.priority = 3 ∨ e.priority = 2 ∨ e.priority = 1 ∨ e.priority = 0 := by omega
  rw [queueHead, speechOrder]
  obtain h | h | h | h := hcases
  · rw [hown (fun f => decide (3 ≤ f.priority)) (by simp [h]) (fun d hd => by simp; omega)]
    rfl
  · rw [habove (by omega), hown (fun f => f.priority == 2) (by simp [h]) (fun d hd => by simp; omega)]
    rfl
  · rw [habove (by omega), hclass 2 (by omega), hown (fun f => f.priority == 1) (by simp [h]) (fun d hd => by simp; omega)]
    rfl
  · rw [habove (by omega), hclass 2 (by omega), hclass 1 (by omega),
      hown (fun f => f.priority == 0) (by simp [h]) (fun d hd => by omega)]
    rfl

/-- The queue without that head keeps the others in their order (R103, R109). -/
theorem queueRest_oldest {before after : List Entry} {e : Entry} (hpriority : e.priority ≤ 3)
    (hbefore : ∀ d ∈ before, d.priority < e.priority) (hafter : ∀ d ∈ after, d.priority ≤ e.priority) :
    queueRest (before ++ e :: after) = before ++ after := by
  rw [queueRest, queueHead_oldest hpriority hbefore hafter]
  have hlower : ∀ d ∈ before, ¬ (min 3 d.priority == min 3 e.priority) = true := by
    intro d hd
    have := hbefore d hd
    simp
    omega
  simp only
  rw [List.eraseP_append_right _ hlower, List.eraseP_cons_of_pos (by simp)]

/-! ## Displacement (R104) -/

/-- The youngest entry of lower priority than p, and the queue without it. -/
theorem youngestBelow_append {before after : List Entry} {d : Entry} {p : Nat} (hd : d.priority < p)
    (hafter : ∀ f ∈ after, p ≤ f.priority) :
    youngestBelow p (before ++ d :: after) = some d ∧ withoutYoungestBelow p (before ++ d :: after) = before ++ after := by
  have hhigher : ∀ f ∈ after.reverse, ¬ (decide (f.priority < p)) = true := by
    intro f hf
    simpa using hafter f (List.mem_reverse.mp hf)
  have hreverse : (before ++ d :: after).reverse = after.reverse ++ d :: before.reverse := by simp
  constructor
  · rw [youngestBelow, hreverse, List.find?_append, List.find?_eq_none.mpr hhigher, List.find?_cons_of_pos (by simpa using hd)]
    rfl
  · rw [withoutYoungestBelow, hreverse, List.eraseP_append_right _ hhigher, List.eraseP_cons_of_pos (by simpa using hd)]
    simp

theorem State.post_setVoice (s : State) (v : VoiceId) (x : Voice) (r : Record) :
    (s.setVoice v x).post r = (s.post r).setVoice v x := by
  rw [State.post_of_reports (s := s) (t := s.setVoice v x) (by cases v <;> rfl) (by cases v <;> rfl)]
  cases v <;> simp only [State.setVoice, State.setVoiceA, State.setVoiceB, State.post_keeps]

/-- Settles O27: the assignment by mode and voices, the offer by the queue's room, the head by priority and age. -/
theorem offersAssignedAndOrdered : Obligations.OffersAssignedAndOrdered := by
  refine ⟨fun s source => ⟨fun hmode => ?_, fun hmode hA => ?_, fun hmode hA hB => ?_, fun a hA b hB hmode => ?_,
    fun v e => ?_⟩, fun s v e hcurrent => ⟨fun hroom => ?_, fun hfull hlower hmark p hstart => ?_,
    fun before after d p hqueue hfull hd hafter hstart hmark => ?_⟩, fun before after e hpriority hbefore hafter =>
    ⟨queueHead_oldest hpriority hbefore hafter, queueRest_oldest hpriority hbefore hafter⟩⟩
  · simp [State.assign, hmode]
  · simp [State.assign, hmode, hA]
  · simp [State.assign, hmode, hA, hB]
  · simp [State.assign, hmode, hA, hB, Voice.currentPriority]
  · cases hmode : s.setup.voiceMode <;> cases v <;> simp [State.loadedPitch, hmode]
  · exact State.offer_joins e hcurrent hroom
  · rw [State.offer_drops hcurrent hfull hlower, State.endEntry_phrase hstart (by simpa [Entry.mark] using hmark)]
  · obtain ⟨hyoungest, hrest⟩ := youngestBelow_append (before := before) hd hafter
    rw [← hqueue] at hyoungest hrest
    obtain ⟨hnone, -⟩ | ⟨c, -, ⟨hroom, -⟩ | ⟨-, d', hd', hoffer⟩ | ⟨-, hnone, -⟩⟩ := s.offer_cases v e
    · exact absurd hnone hcurrent
    · omega
    · obtain rfl : d' = d := Option.some.inj (hd'.symm.trans hyoungest)
      rw [hoffer, hrest, State.endEntry_phrase hstart (by simpa [Entry.mark] using hmark)]
      split
      · rfl
      · rw [State.post_setVoice]
    · rw [hyoungest] at hnone
      cases hnone

end Sys2Proof.Machine
end

section
/-! STOP, and the ends it gives (R68, R79, R118 to R121, R159, R177). -/

namespace Sys2Proof.Machine

/-! ## The end of a marked utterance (R68, R79, R159) -/

/-- The end of a mark that is not the round's changes nothing (R68, log 15). -/
theorem State.markEnded_other {s : State} {n : Nat} (h : s.round.marked ≠ some n) : s.markEnded n = s := if_neg h

theorem State.markEnded_soloOpening {s : State} {n : Nat} (h : s.round.marked = some n)
    (hstate : s.round.state = .soloOpening) :
    s.markEnded n = s.setRound { s.round with state := .soloOpen, marked := none, soloTimer := .running 60 } := by
  rw [State.markEnded, if_pos h, hstate]

theorem State.markEnded_circleOpening {s : State} {n : Nat} (h : s.round.marked = some n)
    (hstate : s.round.state = .circleOpening) :
    s.markEnded n = s.setRound { s.round with state := .circlePlayer, marked := none } := by
  rw [State.markEnded, if_pos h, hstate]

theorem State.markEnded_soloReview {s : State} {n : Nat} (h : s.round.marked = some n)
    (hstate : s.round.state = .soloReview) : s.markEnded n = s.toIdle := by
  rw [State.markEnded, if_pos h, hstate]

/-- What the end of an utterance tells the Round Controller: its mark, when it carries one (R121). -/
def State.markTold (s : State) : Option Nat → State
  | some n => s.markEnded n
  | none => s

/-- The end of a phrase: its SPOKEN record when it carries a tag, and then its mark (R120, R121). -/
theorem State.endEntry_marked {e : Entry} {p : Nat} (hstart : e.start = .phrase p) (s : State) (o : SpokenOutcome) :
    s.endEntry false e o = (if e.tag = 0 then s else s.post (.spoken e.tag o)).markTold e.markNo := by
  have hrecord : (if e.tag ≠ 0 ∧ True then s.post (.spoken e.tag o) else s) =
      if e.tag = 0 then s else s.post (.spoken e.tag o) := by
    by_cases htag : e.tag = 0 <;> simp [htag]
  cases hmark : e.markNo <;> simp only [State.endEntry, State.freeUtterance, hstart, hrecord, hmark, State.markTold]

/-! ## A voice stopped (R100, R118, R120) -/

/-- A voice that holds its current utterance alone, a phrase, and is stopped: the voice is QUIET, its request is withdrawn or
thrown away, and the utterance ends CUT (R100, R118, R120). -/
theorem State.stopVoice_alone {s : State} {v : VoiceId} {c : Context} {p : Nat} (hcurrent : (s.voice v).current = some c)
    (hqueue : (s.voice v).queue = []) (hstack : (s.voice v).stack = []) (hstart : c.entry.start = .phrase p) :
    s.stopVoice false v =
      let u := if c.entry.tag = 0 then s else s.post (.spoken c.entry.tag .cut)
      ((u.setVoice v Voice.quiet).setPort (s.withdraw (.voice v)).port).markTold c.entry.markNo := by
  have hentries : (s.voice v).entries = [c.entry] := by
    simp [Voice.entries, hcurrent, hqueue, hstack, speechOrder]
  have hwithdraw : (s.setVoice v Voice.quiet).withdraw (.voice v) =
      (s.setVoice v Voice.quiet).setPort (s.withdraw (.voice v)).port := by cases v <;> rfl
  have hpost (r : Record) : ((s.setVoice v Voice.quiet).setPort (s.withdraw (.voice v)).port).post r =
      ((s.post r).setVoice v Voice.quiet).setPort (s.withdraw (.voice v)).port := by
    rw [State.post_setPort, State.post_setVoice]
  simp only [State.stopVoice, hentries, List.foldl_cons, List.foldl_nil, hwithdraw]
  rw [State.endEntry_marked hstart, hpost]
  by_cases htag : c.entry.tag = 0
  · rw [if_pos htag, if_pos htag]
  · rw [if_neg htag, if_neg htag]

theorem State.stopVoice_voiceA (s : State) (silent : Bool) (v : VoiceId) :
    (s.stopVoice silent v).voiceA = if .A = v then Voice.quiet else s.voiceA := s.stopVoice_voice silent v .A

theorem State.stopVoice_voiceB (s : State) (silent : Bool) (v : VoiceId) :
    (s.stopVoice silent v).voiceB = if .B = v then Voice.quiet else s.voiceB := s.stopVoice_voice silent v .B

/-- A stopped voice's request is withdrawn, or its transfer's bytes will be thrown away (R100). -/
theorem State.stopVoice_port (s : State) (silent : Bool) (v : VoiceId) :
    (s.stopVoice silent v).port = (s.withdraw (.voice v)).port := by
  refine foldl_holds _ (fun t => t.port = _) (fun t e ht => ?_) _ _ (by cases v <;> rfl)
  rw [← ht]
  simp

/-- The run of a STOP (R177). -/
theorem stopRequest_eq (args : List Byte) (s : State) :
    stopRequest args s = (
      if byteAt args 0 = 0 then s.stopVoice false .A
      else if byteAt args 0 = 1 then s.stopVoice false .B
      else (s.stopVoice false .A).stopVoice false .B,
      { code := 8, outcome := .done, adjusted := decide (args.length ≠ 1 ∨ 2 < byteAt args 0), data := [] }) := by
  have hadjusted : (countAdjusted 1 args || clamped 0 2 (byteAt args 0)) = decide (args.length ≠ 1 ∨ 2 < byteAt args 0) := by
    rw [clamped_zero, countAdjusted]
    simp [bne, beq_eq_decide]
  have hnamed : s.stopNamed (clamp 0 2 (byteAt args 0)) =
      if byteAt args 0 = 0 then s.stopVoice false .A
      else if byteAt args 0 = 1 then s.stopVoice false .B
      else (s.stopVoice false .A).stopVoice false .B := by
    have hcases : byteAt args 0 = 0 ∨ byteAt args 0 = 1 ∨ 2 ≤ byteAt args 0 := by omega
    rw [clamp_zero]
    obtain h | h | h := hcases
    · rw [h]
      rfl
    · rw [h]
      rfl
    · rw [if_neg (by omega), if_neg (by omega), Nat.min_eq_left h]
      rfl
  simp only [stopRequest, hnamed, hadjusted]
  rfl

/-- Settles O14: the voices named fall QUIET with their requests; a lone utterance ends CUT, with its record and mark. -/
theorem stopSilencesVoices : Obligations.StopSilencesVoices := by
  intro s args h reply cut
  have hwithdrawn (t : State) (v : VoiceId) : (t.withdraw (.voice v)).port = cut t.port v := rfl
  constructor
  · have hports : (stopRequest args s.heard).1.port = if byteAt args 0 = 0 then cut s.port .A
        else if byteAt args 0 = 1 then cut s.port .B else cut (cut s.port .A) .B := by
      rw [stopRequest_eq]
      simp only [apply_ite State.port, State.stopVoice_port, hwithdrawn, s.heard_port]
    have hsettled : ((stopRequest args s.heard).1.setAnswer reply).portSettled := by
      have hone (t : State) (v : VoiceId) (ht : t.portSettled) : (t.stopVoice false v).portSettled :=
        portSettled_of_port_eq (t.stopVoice_port false v) (State.withdraw_settled (.voice v) ht)
      have hs := portSettled_of_port_eq s.heard_port h.2.2
      rw [stopRequest_eq]
      dsimp only
      split
      · exact hone _ _ hs
      · split
        · exact hone _ _ hs
        · exact hone _ _ (hone _ _ hs)
    refine ⟨(stopRequest args s.heard).1.setAnswer reply, ?_, ?_, ?_, hports, ?_⟩
    · refine (request_taken h (stopRequest args)).trans ?_
      rw [show some (stopRequest args s.heard).2 = reply by rw [stopRequest_eq], State.grant_settled hsettled]
    · rw [stopRequest_eq]
      show State.voiceA (ite _ _ _) = _
      simp only [apply_ite State.voiceA, State.stopVoice_voiceA]
      split <;> simp_all
    · rw [stopRequest_eq]
      show State.voiceB (ite _ _ _) = _
      simp only [apply_ite State.voiceB, State.stopVoice_voiceB]
      split <;> simp_all
    · rw [stopRequest_eq]
      dsimp only
      split
      · simp
      · split <;> simp
  · intro c p hnamed hcurrent hqueue hstack hstart u stopped
    have hrun : stopRequest args s.heard = (s.heard.stopVoice false .A, {
        code := 8, outcome := .done, adjusted := decide (args.length ≠ 1 ∨ 2 < byteAt args 0), data := [] }) := by
      rw [stopRequest_eq, if_pos hnamed]
    have hvoice : s.heard.voice .A = s.voiceA := by simp [State.voice]
    let t := (u.setVoice .A Voice.quiet).setPort (cut s.port .A)
    have hstop : s.heard.stopVoice false .A = t.markTold c.entry.markNo := by
      rw [State.stopVoice_alone (by rw [hvoice, hcurrent]) (by rw [hvoice, hqueue]) (by rw [hvoice, hstack]) hstart,
        hwithdrawn, s.heard_port]
    have hround : t.round = s.round := by
      simp only [t, u]
      split <;> simp
    have hjudge : t.judge = s.judge := by
      simp only [t, u]
      split <;> simp
    have hend (x : State) (hx : s.heard.stopVoice false .A = x) (hport : x.port = t.port) :
        exec (.stop args) s = .next (x.setAnswer reply) := by
      have hsettled : (x.setAnswer reply).portSettled :=
        portSettled_of_port_eq (s := s.withdraw (.voice .A)) hport (State.withdraw_settled (.voice .A) h.2.2)
      refine (request_taken h (stopRequest args)).trans ?_
      rw [hrun, hx]
      exact congrArg Host.Outcome.next (State.grant_settled hsettled)
    refine ⟨fun hmark => ?_, fun n hmark hmarked => ?_⟩
    · refine hend t (hstop.trans ?_) rfl
      cases hx : c.entry.markNo with
      | none => rfl
      | some n =>
        refine State.markEnded_other ?_
        rw [hround, ← hx]
        exact fun heq => hmark.elim (fun hnone => by simp [hnone] at hx) (fun hne => hne heq.symm)
    · rw [hmark] at hstop
      have hmarked' : t.round.marked = some n := by rw [hround, hmarked]
      refine ⟨fun hstate => ?_, fun hstate => ?_, fun hstate => ?_⟩
      · rw [hend _ (hstop.trans (State.markEnded_soloOpening hmarked' (by rw [hround, hstate]))) rfl, hround]
        rfl
      · rw [hend _ (hstop.trans (State.markEnded_circleOpening hmarked' (by rw [hround, hstate]))) rfl, hround]
        rfl
      · rw [hend _ (hstop.trans (State.markEnded_soloReview hmarked' (by rw [hround, hstate]))) rfl, State.toIdle_eq, hround,
          hjudge]
        rfl

end Sys2Proof.Machine
end

section
/-! The Utterance Store's slots and chains (R93, R95, R97, log 26). -/

namespace Sys2Proof.Machine

/-! ## Slots written and freed (R93, R95, R97) -/

theorem Store.slot_zero (st : Store) : st.slot 0 = none := rfl

theorem Store.write_length (st : Store) (n : Nat) (d : Option Descriptor) :
    (st.write n d).slots.length = st.slots.length := by
  unfold Store.write
  split <;> simp

/-- A slot read after a slot is written. -/
theorem Store.slot_write (st : Store) (n m : Nat) (d : Option Descriptor) :
    (st.write n d).slot m = if m = n ∧ 1 ≤ n ∧ n ≤ st.slots.length then d else st.slot m := by
  by_cases hm : m = 0
  · rw [if_neg (by omega), hm, Store.slot_zero, Store.slot_zero]
  by_cases hn : n = 0
  · rw [if_neg (by omega), Store.write, if_pos hn]
  · simp only [Store.write, if_neg hn, Store.slot, if_neg hm, List.getElem?_set]
    by_cases heq : n - 1 = m - 1
    · by_cases hlt : m - 1 < st.slots.length
      · rw [if_pos heq, if_pos (by omega), if_pos (by omega)]
        rfl
      · rw [if_pos heq, if_neg (by omega), if_neg (by omega), List.getElem?_eq_none (Nat.le_of_not_lt hlt)]
    · rw [if_neg heq, if_neg (by omega)]

/-- A held slot is one of the store's (R93). -/
theorem Store.slot_range {st : Store} {n : Nat} (h : st.slot n ≠ none) : 1 ≤ n ∧ n ≤ st.slots.length := by
  by_contra hout
  refine h ?_
  by_cases hn : n = 0
  · rw [hn, Store.slot_zero]
  · rw [Store.slot, if_neg hn, List.getElem?_eq_none (by omega)]
    rfl

theorem Store.slot_free (st : Store) (ns : List Nat) (m : Nat) :
    (st.free ns).slot m = if m ∈ ns then none else st.slot m := by
  induction ns generalizing st with
  | nil => rfl
  | cons n ns ih =>
    show ((st.write n none).free ns).slot m = _
    rw [ih, Store.slot_write]
    by_cases hmem : m ∈ ns
    · rw [if_pos hmem, if_pos (List.mem_cons_of_mem n hmem)]
    · rw [if_neg hmem]
      by_cases heq : m = n
      · rw [if_pos (show m ∈ n :: ns by simp [heq])]
        by_cases hheld : st.slot m = none
        · rw [hheld, ite_self]
        · have hrange := Store.slot_range hheld
          rw [if_pos ⟨heq, heq ▸ hrange⟩]
      · rw [if_neg (by omega), if_neg (by simp [heq, hmem])]

theorem Store.free_length (st : Store) (ns : List Nat) : (st.free ns).slots.length = st.slots.length := by
  induction ns generalizing st with
  | nil => rfl
  | cons n ns ih => exact (ih _).trans (st.write_length n none)

/-! ## Chains of slots by next links (R93) -/

/-- The slot that a chain reaches after i links. -/
def Store.after (st : Store) : (i n : Nat) → Option Nat
  | 0, n => if (st.slot n).isSome then some n else none
  | i + 1, n =>
    match st.slot n with
    | none => none
    | some d => if d.link = 0 then none else st.after i d.link

theorem Store.after_zero {st : Store} {n m : Nat} : st.after 0 n = some m ↔ n = m ∧ st.slot n ≠ none := by
  cases hn : st.slot n <;> simp [Store.after, hn]

theorem Store.after_succ {st : Store} {i n m : Nat} :
    st.after (i + 1) n = some m ↔ ∃ d, st.slot n = some d ∧ d.link ≠ 0 ∧ st.after i d.link = some m := by
  cases hn : st.slot n with
  | none => simp [Store.after, hn]
  | some d => by_cases hlink : d.link = 0 <;> simp [Store.after, hn, hlink]

theorem Store.after_held {st : Store} {i n m : Nat} (h : st.after i n = some m) : st.slot m ≠ none := by
  induction i generalizing n with
  | zero =>
    obtain ⟨rfl, hheld⟩ := Store.after_zero.mp h
    exact hheld
  | succ i ih =>
    obtain ⟨d, -, -, hrest⟩ := Store.after_succ.mp h
    exact ih hrest

/-- A chain of a fuel lists what it reaches within that many links. -/
theorem Store.mem_chain {st : Store} {f n m : Nat} : m ∈ st.chain f n ↔ ∃ i < f, st.after i n = some m := by
  induction f generalizing n with
  | zero => simp [Store.chain]
  | succ f ih =>
    cases hn : st.slot n with
    | none =>
      simp only [Store.chain, hn, List.not_mem_nil, false_iff]
      rintro ⟨i, -, hi⟩
      cases i with
      | zero => exact (Store.after_zero.mp hi).2 hn
      | succ i =>
        obtain ⟨d, hd, -⟩ := Store.after_succ.mp hi
        simp [hn] at hd
    | some d =>
      have hrest : m ∈ (if d.link = 0 then [] else st.chain f d.link) ↔ ∃ i < f, st.after (i + 1) n = some m := by
        by_cases hlink : d.link = 0
        · simp [hlink, Store.after, hn]
        · rw [if_neg hlink, ih]
          simp [Store.after, hn, hlink]
      simp only [Store.chain, hn, List.mem_cons, hrest]
      constructor
      · rintro (rfl | ⟨i, hi, hafter⟩)
        · exact ⟨0, Nat.succ_pos f, Store.after_zero.mpr ⟨rfl, by simp [hn]⟩⟩
        · exact ⟨i + 1, Nat.succ_lt_succ hi, hafter⟩
      · rintro ⟨i, hi, hafter⟩
        cases i with
        | zero => exact .inl (Store.after_zero.mp hafter).1.symm
        | succ i => exact .inr ⟨i, Nat.lt_of_succ_lt_succ hi, hafter⟩

/-- A chain goes on from every slot it reaches. -/
theorem Store.after_add {st : Store} {i j n m k : Nat} (h : st.after i n = some m) (hrest : st.after j m = some k) :
    st.after (i + j) n = some k := by
  induction i generalizing n with
  | zero =>
    obtain ⟨rfl, -⟩ := Store.after_zero.mp h
    simpa using hrest
  | succ i ih =>
    obtain ⟨d, hd, hlink, hafter⟩ := Store.after_succ.mp h
    rw [Nat.succ_add]
    exact Store.after_succ.mpr ⟨d, hd, hlink, ih hafter⟩

/-- What a chain reaches is one chain: it passes every slot on the way, and goes on from there. -/
theorem Store.after_split {st : Store} {i j n k : Nat} (h : st.after (i + j) n = some k) :
    ∃ m, st.after i n = some m ∧ st.after j m = some k := by
  induction i generalizing n with
  | zero =>
    refine ⟨n, Store.after_zero.mpr ⟨rfl, ?_⟩, by simpa using h⟩
    rw [Nat.zero_add] at h
    cases j with
    | zero => exact (Store.after_zero.mp h).2
    | succ j =>
      obtain ⟨d, hd, -⟩ := Store.after_succ.mp h
      simp [hd]
  | succ i ih =>
    rw [Nat.succ_add] at h
    obtain ⟨d, hd, hlink, hafter⟩ := Store.after_succ.mp h
    obtain ⟨m, hm, hrest⟩ := ih hafter
    exact ⟨m, Store.after_succ.mpr ⟨d, hd, hlink, hm⟩, hrest⟩

/-- A slot reached at all is reached within as many links as the store has slots: a shortest way passes no slot twice. -/
theorem Store.after_within {st : Store} {i n m : Nat} (h : st.after i n = some m) :
    ∃ j < st.slots.length, st.after j n = some m := by
  classical
  have hreached : ∃ j, st.after j n = some m := ⟨i, h⟩
  let least := Nat.find hreached
  have hleast : st.after least n = some m := Nat.find_spec hreached
  refine ⟨least, ?_, hleast⟩
  have hpass (a : Fin (least + 1)) : ∃ x, st.after a n = some x ∧ st.after (least - a) x = some m :=
    Store.after_split (by rwa [Nat.add_sub_cancel' (Nat.le_of_lt_succ a.isLt)])
  choose x hx hrest using hpass
  have hrange (a : Fin (least + 1)) : 1 ≤ x a ∧ x a ≤ st.slots.length := Store.slot_range (Store.after_held (hx a))
  have hinjective : Function.Injective (fun a => (⟨x a - 1, by have := hrange a; omega⟩ : Fin st.slots.length)) := by
    have hbefore : ∀ a b : Fin (least + 1), a < b → x a ≠ x b := by
      intro a b hlt heq
      have hshort : st.after (a + (least - b)) n = some m := Store.after_add (hx a) (heq ▸ hrest b)
      have hmin : least ≤ a + (least - b) := Nat.find_min' hreached hshort
      have := b.isLt
      omega
    intro a b heq
    have hx : x a = x b := by
      have h1 := hrange a
      have h2 := hrange b
      have := Fin.mk.inj heq
      omega
    obtain hlt | heq | hlt := lt_trichotomy a b
    · exact absurd hx (hbefore a b hlt)
    · exact heq
    · exact absurd hx.symm (hbefore b a hlt)
  have hcard := Fintype.card_le_of_injective _ hinjective
  simp only [Fintype.card_fin] at hcard
  omega

/-- With fuel for every slot a chain lists all it reaches. -/
theorem Store.mem_chain_all {st : Store} {n m : Nat} (hlength : st.slots.length = 24) :
    m ∈ st.chain 24 n ↔ ∃ i, st.after i n = some m := by
  rw [Store.mem_chain]
  constructor
  · rintro ⟨i, -, hi⟩
    exact ⟨i, hi⟩
  · rintro ⟨i, hi⟩
    rw [← hlength]
    exact Store.after_within hi

end Sys2Proof.Machine
end

section
/-! RESTART (R60, R81, R97, R100, R118, R119, R147, R181): the ends it gives are silent, and free the spellings' slots. -/

namespace Sys2Proof.Machine

/-! ## Spellings freed one after another (R97) -/

/-- The store once a composed utterance has been freed (R97). -/
def Store.freeStart (st : Store) : StartRef → Store
  | .phrase _ => st
  | .slot n => st.free (st.chain 24 n)

/-- The store once the utterances of entries have been freed in turn (R97). -/
def Store.freeEntries (st : Store) (es : List Entry) : Store := es.foldl (fun st e => st.freeStart e.start) st

/-- The slots of an entry's spelling in a store, those of its chain (log 26). -/
def Store.Spelled (st : Store) (e : Entry) (n : Nat) : Prop := ∃ head, e.start = .slot head ∧ n ∈ st.chain 24 head

theorem State.freeUtterance_eq (s : State) (x : StartRef) : s.freeUtterance x = s.setStore (s.store.freeStart x) := by
  cases x <;> rfl

theorem Store.freeStart_slot (st : Store) (e : Entry) (n : Nat) [Decidable (st.Spelled e n)] :
    (st.freeStart e.start).slot n = if st.Spelled e n then none else st.slot n := by
  cases hstart : e.start with
  | phrase p =>
    rw [if_neg (by simp [Store.Spelled, hstart])]
    rfl
  | slot head =>
    rw [Store.freeStart, Store.slot_free]
    simp [Store.Spelled, hstart]

/-- In a store that has lost slots, a chain stops earlier and goes the same way. -/
theorem Store.after_of_cut {st cut : Store} (hcut : ∀ n, cut.slot n = st.slot n ∨ cut.slot n = none) {i n m : Nat}
    (h : cut.after i n = some m) : st.after i n = some m := by
  induction i generalizing n with
  | zero =>
    obtain ⟨rfl, hheld⟩ := Store.after_zero.mp h
    exact Store.after_zero.mpr ⟨rfl, (hcut n).resolve_right hheld ▸ hheld⟩
  | succ i ih =>
    obtain ⟨d, hd, hlink, hafter⟩ := Store.after_succ.mp h
    have hsame := (hcut n).resolve_right (by simp [hd])
    exact Store.after_succ.mpr ⟨d, hsame ▸ hd, hlink, ih hafter⟩

theorem Store.chain_of_cut {st cut : Store} (hcut : ∀ n, cut.slot n = st.slot n ∨ cut.slot n = none) {f n m : Nat}
    (h : m ∈ cut.chain f n) : m ∈ st.chain f n := by
  obtain ⟨i, hi, hafter⟩ := Store.mem_chain.mp h
  exact Store.mem_chain.mpr ⟨i, hi, Store.after_of_cut hcut hafter⟩

/-- Where the slots lost take with them all that follows, what is left of a chain is what it reached outside them. -/
theorem Store.after_cut_of_closed {st cut : Store} {lost : Nat → Prop}
    (hkept : ∀ n, ¬ lost n → cut.slot n = st.slot n)
    (hclosed : ∀ i n m, lost n → st.after i n = some m → lost m) {i n m : Nat} (h : st.after i n = some m) (hm : ¬ lost m) :
    cut.after i n = some m := by
  induction i generalizing n with
  | zero =>
    obtain ⟨rfl, hheld⟩ := Store.after_zero.mp h
    exact Store.after_zero.mpr ⟨rfl, by rwa [hkept n hm]⟩
  | succ i ih =>
    have hn : ¬ lost n := fun hlost => hm (hclosed _ _ _ hlost h)
    obtain ⟨d, hd, hlink, hafter⟩ := Store.after_succ.mp h
    exact Store.after_succ.mpr ⟨d, by rwa [hkept n hn], hlink, ih hafter⟩

/-- Freed entries leave every slot as it was, or free (R97). -/
theorem Store.freeEntries_cut (st : Store) (es : List Entry) (n : Nat) :
    (st.freeEntries es).slot n = st.slot n ∨ (st.freeEntries es).slot n = none := by
  classical
  induction es generalizing st with
  | nil => exact .inl rfl
  | cons e es ih =>
    obtain h | h := ih (st.freeStart e.start)
    · have hslot := h.trans (st.freeStart_slot e n)
      split at hslot
      · exact .inr hslot
      · exact .inl hslot
    · exact .inr h

/-- A slot that no entry's chain reaches is left as it was (R97). -/
theorem Store.freeEntries_kept {st : Store} {es : List Entry} {n : Nat} (h : ∀ e ∈ es, ¬ st.Spelled e n) :
    (st.freeEntries es).slot n = st.slot n := by
  classical
  induction es generalizing st with
  | nil => rfl
  | cons e es ih =>
    have hhead : (st.freeStart e.start).slot n = st.slot n := by
      rw [st.freeStart_slot e n, if_neg (h e List.mem_cons_self)]
    refine (ih (st := st.freeStart e.start) (fun f hf hspelled => ?_)).trans hhead
    obtain ⟨head, hstart, hmem⟩ := hspelled
    exact h f (List.mem_cons_of_mem e hf) ⟨head, hstart, Store.chain_of_cut (fun m => st.freeEntries_cut [e] m) hmem⟩

theorem Store.freeEntries_length (st : Store) (es : List Entry) : (st.freeEntries es).slots.length = st.slots.length := by
  induction es generalizing st with
  | nil => rfl
  | cons e es ih =>
    refine (ih _).trans ?_
    show (st.freeStart e.start).slots.length = _
    cases e.start with
    | phrase p => rfl
    | slot n => exact st.free_length _

theorem Store.Spelled.closed {st : Store} (hlength : st.slots.length = 24) {e : Entry} {i n m : Nat} (h : st.Spelled e n)
    (hafter : st.after i n = some m) : st.Spelled e m := by
  obtain ⟨head, hstart, hmem⟩ := h
  obtain ⟨j, hj⟩ := (Store.mem_chain_all hlength).mp hmem
  exact ⟨head, hstart, (Store.mem_chain_all hlength).mpr ⟨j + i, Store.after_add hj hafter⟩⟩

/-- Every slot of every spelling among the entries is free afterwards, chains that meet included (R97, log 26). -/
theorem Store.freeEntries_freed {st : Store} (hlength : st.slots.length = 24) {es : List Entry} {e : Entry} {n : Nat}
    (he : e ∈ es) (h : st.Spelled e n) : (st.freeEntries es).slot n = none := by
  classical
  induction es using List.reverseRecOn generalizing e with
  | nil => simp at he
  | append_singleton es last ih =>
    have hfold : st.freeEntries (es ++ [last]) = (st.freeEntries es).freeStart last.start := by
      simp [Store.freeEntries]
    rw [hfold, (st.freeEntries es).freeStart_slot last n]
    split
    · rfl
    · rename_i hnot
      by_cases hearlier : ∃ f ∈ es, st.Spelled f n
      · obtain ⟨f, hf, hspelled⟩ := hearlier
        exact ih hf hspelled
      · obtain hmem | hlast := List.mem_append.mp he
        · exact absurd ⟨e, hmem, h⟩ hearlier
        · obtain rfl := List.mem_singleton.mp hlast
          obtain ⟨head, hstart, hmem⟩ := h
          obtain ⟨i, hi⟩ := (Store.mem_chain_all hlength).mp hmem
          refine absurd ⟨head, hstart, (Store.mem_chain_all ((st.freeEntries_length es).trans hlength)).mpr ⟨i, ?_⟩⟩ hnot
          refine Store.after_cut_of_closed (lost := fun m => ∃ f ∈ es, st.Spelled f m)
            (fun m hm => Store.freeEntries_kept (fun f hf hspelled => hm ⟨f, hf, hspelled⟩)) ?_ hi hearlier
          rintro j a b ⟨f, hf, hspelled⟩ hafter
          exact ⟨f, hf, hspelled.closed hlength hafter⟩

/-- Freeing slots leaves the letter table and its read. -/
theorem Store.free_table (st : Store) (ns : List Nat) :
    (st.free ns).letters = st.letters ∧ (st.free ns).reader = st.reader := by
  induction ns generalizing st with
  | nil => exact ⟨rfl, rfl⟩
  | cons n ns ih =>
    obtain ⟨hletters, hreader⟩ := ih (st.write n none)
    have hwrite : (st.write n none).letters = st.letters ∧ (st.write n none).reader = st.reader := by
      unfold Store.write
      split <;> exact ⟨rfl, rfl⟩
    exact ⟨hletters.trans hwrite.1, hreader.trans hwrite.2⟩

theorem Store.freeEntries_table (st : Store) (es : List Entry) :
    (st.freeEntries es).letters = st.letters ∧ (st.freeEntries es).reader = st.reader := by
  induction es generalizing st with
  | nil => exact ⟨rfl, rfl⟩
  | cons e es ih =>
    obtain ⟨hletters, hreader⟩ := ih (st.freeStart e.start)
    have hstart : (st.freeStart e.start).letters = st.letters ∧ (st.freeStart e.start).reader = st.reader := by
      cases e.start with
      | phrase p => exact ⟨rfl, rfl⟩
      | slot n => exact st.free_table _
    exact ⟨hletters.trans hstart.1, hreader.trans hstart.2⟩

theorem Store.freeEntries_eq (st : Store) (es : List Entry) :
    st.freeEntries es = { st with slots := (st.freeEntries es).slots } := by
  obtain ⟨hletters, hreader⟩ := st.freeEntries_table es
  rw [← hletters, ← hreader]

/-! ## Voices stopped silently (R97, R118, R119) -/

/-- A silent end at a round that holds no mark frees the utterance, and does nothing else (R97, R119). -/
theorem State.endEntry_silent {s : State} (hmarked : s.round.marked = none) (e : Entry) (o : SpokenOutcome) :
    s.endEntry true e o = s.setStore (s.store.freeStart e.start) := by
  rw [← State.freeUtterance_eq]
  unfold State.endEntry
  simp only [Bool.true_eq_false, and_false, if_false]
  split
  · refine State.markEnded_other ?_
    rw [(State.freeUtterance_keeps s e.start).2.2.2.2.2.2.2.2.2.2.2.2.2.1, hmarked]
    simp
  · rfl

/-- A voice stopped by RESTART: QUIET, its request withdrawn or thrown away, its spellings freed (R97, R100, R119). -/
theorem State.stopVoice_silent {s : State} (hmarked : s.round.marked = none) (v : VoiceId) :
    s.stopVoice true v = ((s.setVoice v Voice.quiet).setPort (s.withdraw (.voice v)).port).setStore
      (s.store.freeEntries (s.voice v).entries) := by
  have hends : ∀ (es : List Entry) (u : State), u.round.marked = none →
      es.foldl (fun u e => u.endEntry true e .cut) u = u.setStore (u.store.freeEntries es) := by
    intro es
    induction es with
    | nil => exact fun u _ => rfl
    | cons e es ih =>
      intro u hu
      rw [List.foldl_cons, State.endEntry_silent hu, ih (u.setStore (u.store.freeStart e.start)) hu]
      rfl
  have hwithdraw : (s.setVoice v Voice.quiet).withdraw (.voice v) =
      (s.setVoice v Voice.quiet).setPort (s.withdraw (.voice v)).port := by cases v <;> rfl
  have hstore : ((s.setVoice v Voice.quiet).setPort (s.withdraw (.voice v)).port).store = s.store := by cases v <;> rfl
  have hmarked' : ((s.setVoice v Voice.quiet).setPort (s.withdraw (.voice v)).port).round.marked = none := by
    cases v <;> exact hmarked
  rw [State.stopVoice, hwithdraw, hends _ _ hmarked', hstore]

/-! ## RESTART (R181) -/

/-- Leaving a round changes the round, the Attempt Record, the rows and the transmit queue alone, and neither the last tag nor
the number of the next mark (R79, R141, R170). -/
theorem State.leaveRound_eq (s : State) : ∃ (r : Round) (a : Attempt) (rows : List Row) (q : List TxEntry),
    s.leaveRound = { s with
      round := r, attempt := a, judge := { s.judge with rows := rows }, link := { s.link with queue := q } } ∧
    r.lastTag = s.round.lastTag ∧ r.marks = s.round.marks := by
  cases hstate : s.round.state <;> simp only [State.leaveRound, hstate]
  case idle => exact ⟨s.round, s.attempt, s.judge.rows, s.link.queue, rfl, rfl, rfl⟩
  case soloOpening | soloOpen | soloReview => exact ⟨s.round.closed, Attempt.cleared, [], s.link.queue, rfl, rfl, rfl⟩
  case circleDealing =>
    exact ⟨s.round.closed, Attempt.cleared, [], s.link.queue.filter (fun e => e.kind != .deal), rfl, rfl, rfl⟩
  all_goals exact ⟨_, _, _, _, s.leaveCircle_eq, rfl, rfl⟩

/-- What RESTART leaves (R60, R81, R97, R100, R118, R147, R181). -/
theorem State.restart_eq (s : State) :
    s.restart = { s with
      round := { Round.reset with lastTag := s.round.lastTag, marks := s.round.marks }
      attempt := Attempt.cleared, judge := { s.judge with rows := [] }, voiceA := Voice.quiet, voiceB := Voice.quiet
      port := ((s.withdraw (.voice .A)).withdraw (.voice .B)).port
      store := (s.store.freeEntries s.voiceA.entries).freeEntries s.voiceB.entries
      scanner := { s.scanner with queue := [] }, link := { s.link with queue := [] } } := by
  obtain ⟨r, a, rows, q, hleave, htag, hmarks⟩ := s.leaveRound_eq
  let u : State := { s with
    round := { Round.reset with lastTag := s.round.lastTag, marks := s.round.marks }
    attempt := Attempt.cleared, judge := { s.judge with rows := [] }, link := { s.link with queue := q } }
  have hu : s.leaveRound.clearAttempt.setRound { Round.reset with
      lastTag := s.leaveRound.clearAttempt.round.lastTag, marks := s.leaveRound.clearAttempt.round.marks } = u := by
    rw [hleave]
    simp only [u, ← htag, ← hmarks, State.clearAttempt, State.setRound]
    rfl
  have hA : u.stopVoice true .A = ((u.setVoiceA Voice.quiet).setPort (u.withdraw (.voice .A)).port).setStore
      (u.store.freeEntries u.voiceA.entries) := State.stopVoice_silent rfl .A
  have hboth : u.stopBoth true = { u with
      voiceA := Voice.quiet, voiceB := Voice.quiet, port := ((u.withdraw (.voice .A)).withdraw (.voice .B)).port
      store := (u.store.freeEntries u.voiceA.entries).freeEntries u.voiceB.entries } := by
    rw [State.stopBoth, hA, State.stopVoice_silent (s := ((u.setVoiceA Voice.quiet).setPort _).setStore _) rfl .B]
    rfl
  unfold State.restart
  dsimp only
  rw [hu, hboth]
  rfl

/-- A voice's entries are its current utterance, those of its resume stack, and those of its queue. -/
theorem Voice.mem_entries {x : Voice} {e : Entry} :
    e ∈ x.entries ↔ e ∈ x.current.toList.map (·.entry) ++ x.stack.map (·.entry) ++ x.queue := by
  simp only [Voice.entries, List.mem_append, mem_speechOrder]

theorem Store.freeEntries_append (st : Store) (es fs : List Entry) :
    (st.freeEntries es).freeEntries fs = st.freeEntries (es ++ fs) := by
  simp [Store.freeEntries]

/-- Settles O15: what RESTART leaves of the state, and what the freed spellings leave of the store. -/
theorem restartEndsActivity : Obligations.RestartEndsActivity := by
  intro s args h
  let store := s.store.freeEntries (s.voiceA.entries ++ s.voiceB.entries)
  let t : State := { s.heard with
    round := { Round.reset with lastTag := s.round.lastTag, marks := s.round.marks }
    attempt := Attempt.cleared, judge := { s.judge with rows := [] }, voiceA := Voice.quiet, voiceB := Voice.quiet
    port := ((s.withdraw (.voice .A)).withdraw (.voice .B)).port, store := store
    scanner := { s.scanner with queue := [] }, link := { s.heard.link with queue := [] }
    answer := some { code := 13, outcome := .done, adjusted := args.length != 0, data := [] } }
  have ht : s.heard.restart.setAnswer t.answer = t := by
    rw [State.restart_eq, Store.freeEntries_append]
    simp only [State.heard_keeps, State.setAnswer, State.withdraw, State.setPort, t, store]
  have hsettled : t.portSettled :=
    portSettled_of_port_eq (s := (s.withdraw (.voice .A)).withdraw (.voice .B)) rfl
      (State.withdraw_settled _ (State.withdraw_settled _ h.2.2))
  refine ⟨t, ?_, ?_, fun n => ?_, ?_⟩
  · refine (request_taken h (restartRequest args)).trans ?_
    exact congrArg Host.Outcome.next ((congrArg State.grant ht).trans (State.grant_settled hsettled))
  · have hstore : store = { s.store with slots := store.slots } := s.store.freeEntries_eq _
    have hflight : s.heard.link.inFlight = s.link.inFlight := s.heard_queue.2
    rw [← hflight]
    show _ = { t with store := { s.store with slots := store.slots } }
    rw [← hstore]
  · exact s.store.freeEntries_cut _ n
  · intro held entries
    have hentries (e : Entry) : e ∈ s.voiceA.entries ++ s.voiceB.entries ↔ e ∈ entries := by
      simp only [entries, held, List.mem_append, Voice.mem_entries]
    refine ⟨fun hlength e he head hstart n hn => ?_, fun n hn => ?_⟩
    · exact Store.freeEntries_freed hlength ((hentries e).mpr he) ⟨head, hstart, hn⟩
    · refine Store.freeEntries_kept (fun e he => ?_)
      rintro ⟨head, hstart, hmem⟩
      exact hn e ((hentries e).mp he) head hstart hmem

end Sys2Proof.Machine
end

section
/-! Composed spellings (R95 to R97, log 26): the lowest free slots, their letters and links, and their freeing. -/

namespace Sys2Proof.Machine

/-! ## Writing a spelling (R95) -/

theorem Store.freeSlots_congr {st t : Store} (h : ∀ n, t.slot n = st.slot n) : t.freeSlots = st.freeSlots := by
  simp [Store.freeSlots, h]

theorem Store.freeSlots_nodup (st : Store) : st.freeSlots.Nodup := List.Nodup.filter _ List.nodup_range'

theorem Store.mem_freeSlots {st : Store} {n : Nat} : n ∈ st.freeSlots ↔ 1 ≤ n ∧ n ≤ 24 ∧ st.slot n = none := by
  simp [Store.freeSlots, Config.slotCount, List.mem_range'_1, and_assoc]
  omega

/-- A spelling leaves every slot but its own as it was (R95). -/
theorem writeSpelling_other {st : Store} {ns : List Nat} {n : Nat} (h : n ∉ ns) (ps : List Pair) :
    (writeSpelling st ns ps).slot n = st.slot n := by
  induction ns generalizing st ps with
  | nil => rfl
  | cons m ns ih =>
    rw [writeSpelling, ih (fun hmem => h (List.mem_cons_of_mem m hmem)), Store.slot_write, if_neg]
    rintro ⟨rfl, -⟩
    exact h List.mem_cons_self

/-- A spelling leaves the letter table and its read. -/
theorem writeSpelling_eq (st : Store) (ns : List Nat) (ps : List Pair) :
    writeSpelling st ns ps = { st with slots := (writeSpelling st ns ps).slots } := by
  have htable : (writeSpelling st ns ps).letters = st.letters ∧ (writeSpelling st ns ps).reader = st.reader := by
    induction ns generalizing st ps with
    | nil => exact ⟨rfl, rfl⟩
    | cons n ns ih =>
      rw [writeSpelling]
      obtain ⟨hletters, hreader⟩ := ih (st.write n _) (ps.drop 3)
      rw [hletters, hreader, Store.write]
      split <;> exact ⟨rfl, rfl⟩
  rw [← htable.1, ← htable.2]

/-- Slot i of a spelling holds its three letters, linked to the next slot (R95). -/
theorem writeSpelling_slot {st : Store} {ns : List Nat} (hnodup : ns.Nodup)
    (hrange : ∀ n ∈ ns, 1 ≤ n ∧ n ≤ st.slots.length) (ps : List Pair) {i n : Nat} (h : ns[i]? = some n) :
    (writeSpelling st ns ps).slot n = some {
      pairs := spellingPairs ((ps.drop (3 * i)).take 3), link := (ns[i + 1]?).getD 0 } := by
  induction ns generalizing st ps i with
  | nil => simp at h
  | cons m ns ih =>
    obtain ⟨hm, hrest⟩ := List.nodup_cons.mp hnodup
    have hrange' : ∀ k ∈ ns, 1 ≤ k ∧ k ≤ (st.write m (some {
        pairs := spellingPairs (ps.take 3), link := ns.headD 0 })).slots.length := by
      intro k hk
      rw [Store.write_length]
      exact hrange k (List.mem_cons_of_mem m hk)
    cases i with
    | zero =>
      obtain rfl : m = n := by simpa using h
      rw [writeSpelling, writeSpelling_other hm, Store.slot_write, if_pos ⟨rfl, hrange m List.mem_cons_self⟩]
      cases ns <;> simp
    | succ i =>
      rw [writeSpelling, ih hrest hrange' (ps.drop 3) (by simpa using h), List.drop_drop,
        show 3 + 3 * i = 3 * (i + 1) by omega]
      rfl

/-- Slots each linked to the next are one chain, the last link being 0 (R93). -/
theorem Store.chain_linked {st : Store} {ns : List Nat} {n f : Nat} (hhead : ns.head? = some n) (hfuel : ns.length ≤ f)
    (hzero : 0 ∉ ns) (hlinked : ∀ i k, ns[i]? = some k → ∃ d, st.slot k = some d ∧ d.link = (ns[i + 1]?).getD 0) :
    st.chain f n = ns := by
  induction ns generalizing n f with
  | nil => simp at hhead
  | cons m ns ih =>
    obtain rfl : m = n := by simpa using hhead
    obtain ⟨d, hd, hlink⟩ := hlinked 0 m (by simp)
    obtain ⟨f, rfl⟩ : ∃ g, f = g + 1 := ⟨f - 1, by simp at hfuel; omega⟩
    have hrest (i k : Nat) (h : ns[i]? = some k) : ∃ d, st.slot k = some d ∧ d.link = (ns[i + 1]?).getD 0 :=
      hlinked (i + 1) k (by simpa using h)
    simp only [Store.chain, hd]
    cases ns with
    | nil => simp [show d.link = 0 by simpa using hlink]
    | cons k ns =>
      obtain rfl : d.link = k := by simpa using hlink
      have hne : d.link ≠ 0 := fun h => hzero (by simp [h])
      rw [if_neg hne, ih rfl (by simpa using hfuel) (fun h => hzero (List.mem_cons_of_mem m h)) hrest]

/-! ## Composing (R95, R96) -/

/-- What a spelling writes where there is a free slot (R95, R96). -/
theorem State.compose_taken {s : State} {letters : List Nat} {head : Nat} (hletters : letters ≠ [])
    (hfree : s.store.freeSlots.head? = some head) :
    let taken := s.store.freeSlots.take ((letters.length + 2) / 3)
    s.compose letters = (s.setStore (writeSpelling s.store taken
      ((letters.take (3 * taken.length)).map (fun x => s.store.letterPair (letterPhrase s.setup.letterVoice x)))),
      some { head := head, letters := min letters.length (3 * taken.length) }) := by
  obtain ⟨rest, hrest⟩ := List.head?_eq_some_iff.mp hfree
  obtain ⟨k, hk⟩ : ∃ k, (letters.length + 2) / 3 = k + 1 :=
    ⟨(letters.length + 2) / 3 - 1, by have := List.length_pos_of_ne_nil hletters; omega⟩
  intro taken
  have htaken : taken = head :: rest.take k := by simp only [taken, hrest, hk, List.take_succ_cons]
  have hsame : s.store.freeSlots.take ((letters.length + 2) / 3) = taken := rfl
  simp only [State.compose, hsame, htaken, List.length_take, Nat.min_comm]

/-- Settles O19: what the spelling writes in the slots it takes, their chain, and the slots free before and after. -/
theorem spellingTakesLowestSlots : Obligations.SpellingTakesLowestSlots := by
  intro s letters hlength hletters
  refine ⟨fun hfull => State.compose_full hfull letters, fun head hfree => ?_⟩
  intro taken t
  have hcompose := State.compose_taken hletters hfree
  let pairs := (letters.take (3 * taken.length)).map (fun x => s.store.letterPair (letterPhrase s.setup.letterVoice x))
  have ht : t = s.setStore (writeSpelling s.store taken pairs) := congrArg Prod.fst hcompose
  have hsplit : taken ++ s.store.freeSlots.drop taken.length = s.store.freeSlots :=
    List.prefix_iff_eq_append.mp (List.take_prefix _ _)
  have hfree_nodup := s.store.freeSlots_nodup
  rw [← hsplit] at hfree_nodup
  have hnodup : taken.Nodup := hfree_nodup.of_append_left
  have hmem (n : Nat) (hn : n ∈ taken) : 1 ≤ n ∧ n ≤ 24 ∧ s.store.slot n = none :=
    Store.mem_freeSlots.mp (List.mem_of_mem_take hn)
  have hrange (n : Nat) (hn : n ∈ taken) : 1 ≤ n ∧ n ≤ s.store.slots.length := by
    obtain ⟨hlow, hhigh, -⟩ := hmem n hn
    omega
  have hslot (i n : Nat) (hn : taken[i]? = some n) : t.store.slot n = some {
      pairs := spellingPairs ((pairs.drop (3 * i)).take 3), link := (taken[i + 1]?).getD 0 } := by
    rw [ht]
    exact writeSpelling_slot hnodup hrange pairs hn
  have hother (n : Nat) (hn : n ∉ taken) : t.store.slot n = s.store.slot n := by
    rw [ht]
    exact writeSpelling_other hn pairs
  refine ⟨?_, ?_, ?_, ?_, hother, fun i n hn => ?_, ?_⟩
  · rw [ht]
    exact hcompose
  · rw [ht]
    exact congrArg s.setStore (writeSpelling_eq s.store taken pairs)
  · refine Store.chain_linked ?_ ?_ (fun h => by have := hmem 0 h; omega) (fun i k hk => ⟨_, hslot i k hk, rfl⟩)
    · have := List.length_pos_of_ne_nil hletters
      rw [List.head?_take, if_neg (by omega), hfree]
    · have hall : s.store.freeSlots.length ≤ 24 := List.length_filter_le _ _
      rw [List.length_take]
      omega
  · have hfilter : t.store.freeSlots = s.store.freeSlots.filter (fun n => decide (n ∉ taken)) := by
      rw [Store.freeSlots, Store.freeSlots, List.filter_filter]
      refine List.filter_congr (fun n _ => ?_)
      by_cases hn : n ∈ taken
      · obtain ⟨i, hi⟩ := List.mem_iff_getElem?.mp hn
        simp [hslot i n hi, hn]
      · simp [hother n hn, hn]
    have hdisjoint := List.disjoint_of_nodup_append hfree_nodup
    rw [hfilter]
    conv_lhs => rw [← hsplit]
    rw [List.filter_append, List.filter_eq_nil_iff.mpr (fun n hn => by simp [hn]), List.nil_append,
      List.filter_eq_self.mpr (fun n hn => by simpa using fun h => hdisjoint h hn)]
  · have hi : i < taken.length := (List.getElem?_eq_some_iff.mp hn).1
    have hletters : (pairs.drop (3 * i)).take 3 = ((letters.drop (3 * i)).take 3).map
        (fun x => s.store.letterPair (letterPhrase s.setup.letterVoice x)) := by
      simp only [pairs, List.drop_take, ← List.map_drop, ← List.map_take, List.take_take]
      rw [Nat.min_eq_left (by omega)]
    rw [hslot i n hn, hletters, spellingPairs, List.flatMap_map]
  · refine Store.freeSlots_congr (fun n => ?_)
    rw [Store.slot_free]
    split
    · rename_i hn
      exact (hmem n hn).2.2.symm
    · rename_i hn
      exact hother n hn

end Sys2Proof.Machine
end

section
/-! Discarded frames and link trouble (R38, R130, R133, R134, R138, R152, R171). -/

namespace Sys2Proof.Machine

/-! ## Speech inside an event (R105, R109) -/

/-- The round's speech on a free voice, before the grant. -/
theorem State.freeToSpeak.speakRound {s : State} (h : s.freeToSpeak) (p : Nat) :
    s.speakRound [p] = (s.setVoiceA (s.speaking .A (s.remark .round 2 p false) [])).ask (.voice .A) (.phraseDirectory p) :=
  State.offerGroup_split h.1 h.2.1 (source := .round) nofun 2 p (Nat.zero_le _)

/-- What a group on voice A makes of a state depends, besides that state, on setup values and port alone. -/
theorem State.saying_congr {s t : State} (hsetup : t.setup = s.setup) (hport : t.port = s.port) (source : Source)
    (priority first : Nat) (more : List Nat) :
    t.saying source priority first more = { t with
      voiceA := s.speaking .A (s.remark source priority first false) (more.map (fun p => s.remark source priority p false))
      port := s.portAsked (.voice .A) (.phraseDirectory first) } := by
  have hremark (p : Nat) := State.remark_unmarked hsetup source priority p
  simp only [State.saying, State.speaking_congr hsetup, State.portAsked_congr hport, hremark]

/-- What the arbiter grants at the end of an event that asked for one transfer (R98). -/
theorem State.grant_asked {s t : State} {r : Requester} {k : TransferKind} (hport : t.port = (s.ask r k).port) :
    t.grant = t.setPort (s.portAsked r k) := by
  rw [State.grant_of_port_eq hport]
  rfl

/-- An event that has started a group on voice A, and changed what it changed, ends with the part saying it. -/
theorem State.grant_saying {s t u : State} {source : Source} {priority first : Nat} {more : List Nat}
    (hport : t.port = (s.ask (.voice .A) (.phraseDirectory first)).port) (hsetup : u.setup = s.setup)
    (hsame : u.port = s.port) (ht : t = { u with
      voiceA := s.speaking .A (s.remark source priority first false) (more.map (fun p => s.remark source priority p false))
      port := t.port }) :
    t.grant = u.saying source priority first more := by
  rw [State.grant_asked hport, State.saying_congr hsetup hsame]
  conv_lhs => rw [ht]
  rfl

/-! ## A discard (R130, R133, R134) -/

/-- The Link Interface after a discard, before the link's state is looked at (R130, R133, R134). -/
def Link.discarded (l : Link) (cause : DiscardCause) : Link :=
  { l with
    receiver := if cause = .silence then .ready else .gapWait 0
    badRun := min 15 (l.badRun + 1), goodCount := 0, inFlight := none
    queue := l.queue.map (fun e => { e with sending := false }) }

theorem receiverAfter_eq (cause : DiscardCause) : receiverAfter cause = if cause = .silence then .ready else .gapWait 0 := by
  cases cause <;> rfl

theorem State.discard_eq (s : State) (cause : DiscardCause) :
    s.discard cause =
      if s.link.state = .clear ∧ s.setup.threshold ≤ min 15 (s.link.badRun + 1) then
        (s.setLink (s.link.discarded cause)).becomeTroubled
      else s.setLink (s.link.discarded cause) := by
  rw [State.discard, receiverAfter_eq]
  rfl

theorem exec_frameDiscard {s : State} (h : s.hearing = true) (cause : DiscardCause) :
    exec (.frameDiscard cause) s = .next (s.discard cause).grant :=
  frameEvent_hearing h (State.discard · cause)

/-! ## The link becomes TROUBLED (R138, R171) -/

/-- The state of a link that becomes TROUBLED, with its record and flag, before the speech (R138). -/
def State.troubled (s : State) (l : Link) : State :=
  { s with
    link := { l with state := .troubled, goodCount := 0 }
    reports := s.reports ++ [.link .troubled], flags := { s.flags with linkTrouble := true } }

/-- That state once it speaks of the trouble (R138). -/
def State.troubledSpeaking (s : State) (l : Link) : State :=
  ((s.troubled l).setVoiceA (s.speaking .A (s.remark .round 2 70 false) [])).ask (.voice .A) (.phraseDirectory 70)

theorem State.becomeTroubled_eq {s : State} (hspeak : s.freeToSpeak) (hroom : s.reports.length < 16) (l : Link) :
    (s.setLink l).becomeTroubled = (s.troubledSpeaking l).roundTroubled := by
  have hspeak' : (s.troubled l).freeToSpeak := hspeak.congr rfl rfl rfl
  have hposted : ((s.setLink l).setLink { l with state := .troubled, goodCount := 0 }).post (.link .troubled) =
      ((s.setLink l).setLink { l with state := .troubled, goodCount := 0 }).setReports (s.reports ++ [.link .troubled]) :=
    if_pos hroom
  unfold State.becomeTroubled
  dsimp only
  rw [show (s.setLink l).link = l from rfl, hposted]
  refine congrArg State.roundTroubled ((hspeak'.speakRound 70).trans ?_)
  have hspeaking : (s.troubled l).speaking = s.speaking := State.speaking_congr rfl
  have hremark : (s.troubled l).remark = s.remark := State.remark_congr rfl rfl
  rw [hspeaking, hremark]
  rfl

/-- A link that becomes TROUBLED changes no round but a deal or a player's (R171). -/
theorem State.roundTroubled_other {s : State} (hdealing : s.round.state ≠ .circleDealing)
    (hplayer : s.round.state.player = false) : s.roundTroubled = s := by
  unfold State.roundTroubled
  cases hstate : s.round.state <;> simp_all [RoundState.player]

theorem State.roundTroubled_dealing {s : State} {d : DealFacts} (hstate : s.round.state = .circleDealing)
    (hdeal : s.round.deal = some d) :
    s.roundTroubled = ((s.removeKind .deal).post (.deal .failed d.tag d.word)).toIdle := by
  simp only [State.roundTroubled, hstate, hdeal]

theorem State.roundTroubled_player {s : State} (h : s.round.state.player = true) :
    s.roundTroubled = s.removeRoundFrames.releaseTarget.setRoundState .circleSpectator := by
  unfold State.roundTroubled
  cases hstate : s.round.state <;> simp_all [RoundState.player]

/-- A target released in the middle of a round (R37, R38, R44). -/
theorem State.releaseTarget_eq (s : State) :
    s.releaseTarget = { s with
      attempt := { s.attempt with target := none, pending := [] }, judge := { s.judge with rows := [] }
      round := { s.round with misses := if s.attempt.pending = [] then s.round.misses else 0 } } := by
  by_cases hpending : s.attempt.pending = []
  · rw [State.releaseTarget, State.removePending_of_eq hpending, if_pos hpending, ← hpending]
    rfl
  · rw [State.releaseTarget, State.removePending_of_ne hpending, if_neg hpending]
    rfl

/-- Settles O43: below the threshold, at it with no round to leave, and at it in a deal and at a player. -/
theorem discardsAndLinkTrouble : Obligations.DiscardsAndLinkTrouble := by
  refine ⟨fun s cause hhearing hsettled => ?_, fun s cause hhearing hclear hspeak hthreshold hroom => ?_⟩
  · intro after
    refine ⟨fun hbelow => ?_, fun hclear hthreshold hspeak hroom hstate => ?_⟩
    · have hnot : ¬ (s.link.state = .clear ∧ s.setup.threshold ≤ min 15 (s.link.badRun + 1)) := by
        rintro ⟨hclear, hthreshold⟩
        obtain htroubled | hlow := hbelow
        · simp [hclear] at htroubled
        · exact absurd hthreshold (Nat.not_le.mpr hlow)
      rw [exec_frameDiscard hhearing, State.discard_eq, if_neg hnot]
      exact congrArg Host.Outcome.next (State.grant_settled hsettled)
    · rw [exec_frameDiscard hhearing, State.discard_eq, if_pos ⟨hclear, hthreshold⟩, State.becomeTroubled_eq hspeak hroom]
      have hother : s.round.state ≠ .circleDealing ∧ s.round.state.player = false := by
        obtain h | h | h | h | h | h := hstate <;> rw [h] <;> exact ⟨nofun, rfl⟩
      rw [State.roundTroubled_other (s := s.troubledSpeaking _) hother.1 hother.2]
      refine congrArg Host.Outcome.next (State.grant_saying (s := s) ?_ ?_ ?_ ?_) <;> rfl
  · intro after
    rw [exec_frameDiscard hhearing, State.discard_eq, if_pos ⟨hclear, hthreshold⟩,
      State.becomeTroubled_eq hspeak (Nat.lt_succ_of_lt hroom)]
    refine ⟨fun d hdeal hstate => ?_, fun hstate => ?_⟩
    · have hposted : ((s.troubledSpeaking (s.link.discarded cause)).removeKind .deal).post (.deal .failed d.tag d.word) =
          ((s.troubledSpeaking (s.link.discarded cause)).removeKind .deal).setReports
            (s.reports ++ [.link .troubled, .deal .failed d.tag d.word]) := by
        rw [State.post_of_room]
        · show State.setReports _ ((s.reports ++ [_]) ++ [_]) = _
          rw [List.append_assoc]
          rfl
        · show (s.reports ++ [_]).length < 16
          simp
          omega
      rw [State.roundTroubled_dealing (s := s.troubledSpeaking _) (d := d) hstate hdeal, hposted, State.toIdle_eq]
      refine congrArg Host.Outcome.next (State.grant_saying (s := s) ?_ ?_ ?_ ?_)
      · rfl
      · rfl
      · rfl
      · simp only [State.troubledSpeaking, State.troubled, State.ask, State.setVoiceA, State.setPort, State.removeKind,
          State.setLink, State.setReports, Link.discarded]
        rfl
    · rw [State.roundTroubled_player (s := s.troubledSpeaking _) (by obtain h | h := hstate <;> exact h ▸ rfl),
        State.releaseTarget_eq, State.removeRoundFrames_eq]
      refine congrArg Host.Outcome.next (State.grant_saying (s := s) ?_ ?_ ?_ ?_)
      · rfl
      · rfl
      · rfl
      · simp only [State.troubledSpeaking, State.troubled, State.ask, State.setVoiceA, State.setPort, State.setRoundState,
          State.setRound, State.setLink, Link.discarded]
        rfl

end Sys2Proof.Machine
end

section
/-! Good frames of parts (R134 to R139, R141, R148, R149, R178): the counts, the own frames, the Roster, a clash. -/

namespace Sys2Proof.Machine

/-! ## The counts of a good frame (R134, R139) -/

/-- Whether a good frame makes the link CLEAR: it is the fourth on a TROUBLED link (R139). -/
abbrev State.clearsNow (s : State) : Prop := s.link.state = .troubled ∧ 3 ≤ s.link.goodCount

/-- The state once a good frame has been counted, with the receiver where it then stands (R134, R139). -/
def State.counted (s : State) (r : Receiver) : State :=
  { (if s.clearsNow then s.post (.link .clear) else s) with
    link := { s.link with
      receiver := r, badRun := 0, state := if s.clearsNow then .clear else s.link.state
      goodCount := if s.link.state = .clear then s.link.goodCount else if s.clearsNow then 0 else s.link.goodCount + 1 } }

theorem State.countGood_eq (s : State) (r : Receiver) : (s.setReceiver r).countGood = s.counted r := by
  by_cases hclears : s.clearsNow
  · obtain ⟨hstate, hcount⟩ := hclears
    have hmany : ¬ s.link.goodCount + 1 < Config.goodToClear := Nat.not_lt.mpr (Nat.succ_le_succ hcount)
    simp only [State.counted, if_pos (show s.clearsNow from ⟨hstate, hcount⟩), hstate, reduceCtorEq, if_false]
    simp only [State.countGood, State.setReceiver, State.setLink_link, hstate, if_neg hmany, State.post_setLink]
    rfl
  · simp only [State.counted, if_neg hclears]
    cases hstate : s.link.state with
    | clear =>
      simp only [State.countGood, State.setReceiver, State.setLink_link, hstate, if_true]
      rfl
    | troubled =>
      have hfew : s.link.goodCount + 1 < Config.goodToClear := by
        have : ¬ 3 ≤ s.link.goodCount := fun h => hclears ⟨hstate, h⟩
        simp only [Config.goodToClear]
        omega
      simp only [State.countGood, State.setReceiver, State.setLink_link, hstate, if_pos hfew, reduceCtorEq, if_false]
      rfl

/-- On a CLEAR link a good frame sets the run of bad frames to 0 (R134). -/
theorem State.counted_clear {s : State} (h : s.link.state = .clear) (r : Receiver) :
    s.counted r = { s with link := { s.link with receiver := r, badRun := 0 } } := by
  have hnot : ¬ s.clearsNow := fun hclears => by cases h.symm.trans hclears.1
  simp only [State.counted, if_neg hnot, if_pos h]

theorem State.counted_port (s : State) (r : Receiver) : (s.counted r).port = s.port := by
  by_cases hclears : s.clearsNow
  · simp only [State.counted, if_pos hclears, State.post_keeps]
  · simp only [State.counted, if_neg hclears]

/-! ## The station's own frames (R134, R135, R143, R178) -/

/-- The state once the station's own frame in flight has been counted and its entry has left the transmit queue, if it was
there (R134, R135). -/
def State.ownCounted (s : State) : State :=
  (s.counted (.gapWait 0)).setLink { (s.counted (.gapWait 0)).link with
    inFlight := none, queue := s.link.queue.filter (fun e => !e.sending) }

theorem State.ownCounted_port (s : State) : s.ownCounted.port = s.port := s.counted_port (.gapWait 0)

theorem State.heardOwn_entry (s : State) : s.heardOwn = (s.counted (.gapWait 0)).entryLeaves := by
  rw [← State.countGood_eq s (.gapWait 0)]
  rfl

theorem State.heardOwn_queue {s : State} {x : InFlight} (hx : s.link.inFlight = some x) (hplace : x.place = .queue) :
    s.heardOwn = s.ownCounted := by
  have hx' : (s.counted (.gapWait 0)).link.inFlight = some x := hx
  simp only [State.heardOwn_entry, State.entryLeaves, hx', hplace]
  rfl

theorem State.heardOwn_answer {s : State} {x : InFlight} (hx : s.link.inFlight = some x) (hplace : x.place = .answer) :
    s.heardOwn = s.ownCounted.setAnswer none := by
  have hx' : (s.counted (.gapWait 0)).link.inFlight = some x := hx
  simp only [State.heardOwn_entry, State.entryLeaves, hx', hplace]
  rfl

theorem State.heardOwn_report {s : State} {x : InFlight} (hx : s.link.inFlight = some x) (hplace : x.place = .report) :
    s.heardOwn = s.ownCounted.setReports s.ownCounted.reports.tail := by
  have hx' : (s.counted (.gapWait 0)).link.inFlight = some x := hx
  simp only [State.heardOwn_entry, State.entryLeaves, hx', hplace]
  rfl

theorem exec_replyFrame {s : State} {x : InFlight} (hhearing : s.hearing = true) (hx : s.link.inFlight = some x)
    (hplace : x.place = .answer) (anyKey : Bool) :
    exec (.replyFrame anyKey) s = .next (s.replyEnds anyKey).grant := by
  have hsending : s.sendingFrom .answer = true := by simp [State.sendingFrom, hx, hplace]
  simp only [exec, execReplyFrame, hsending, if_true, frameEvent_hearing hhearing]

/-- A REPLY that is neither that of STATUS nor the DONE of DOZE leaves with no more than its slot (R143). -/
theorem State.replyEnds_plain {s : State} {r : Reply} (hanswer : s.answer = some r) (hstatus : r.code ≠ 9)
    (hdoze : r.code ≠ 14 ∨ r.outcome ≠ .done) (anyKey : Bool) : s.replyEnds anyKey = s.heardOwn := by
  have hawake : s.goingToDoze = false := by
    obtain h | h := hdoze <;> simp [State.goingToDoze, hanswer, h, Config.codeDoze]
  have hstatus : ¬ r.code = Config.codeStatus := hstatus
  simp only [State.replyEnds, hanswer, hawake, hstatus, Bool.false_eq_true, if_false]
  rfl

/-- A STATUS REPLY clears the flags and counts as it leaves (R178). -/
theorem State.replyEnds_status {s : State} {r : Reply} (hanswer : s.answer = some r) (hstatus : r.code = 9) (anyKey : Bool) :
    s.replyEnds anyKey = s.heardOwn.statusSent := by
  have hawake : s.goingToDoze = false := by simp [State.goingToDoze, hanswer, hstatus, Config.codeDoze]
  have hstatus : r.code = Config.codeStatus := hstatus
  simp only [State.replyEnds, hanswer, hawake, hstatus, Bool.false_eq_true, if_false, if_true]
  rfl

/-- Settles O44, by the frame's place and the reply's code. -/
theorem ownReplyAndReportLeave : Obligations.OwnReplyAndReportLeave := by
  intro s anyKey hhearing hsettled x hx clears after u
  have hown : s.ownCounted = { u with link := after } := rfl
  have hmixer : u.mixer = s.mixer := by
    simp only [u]
    split
    · simp
    · rfl
  have hgrant (t : State) (hport : t.port = s.ownCounted.port) : t.grant = t :=
    State.grant_settled (portSettled_of_port_eq (hport.trans s.ownCounted_port) hsettled)
  refine ⟨fun r hr hplace hstatus hdoze => ?_, fun r hr hplace hstatus => ?_, fun hplace => ?_⟩
  · rw [exec_replyFrame hhearing hx hplace, State.replyEnds_plain hr hstatus hdoze, State.heardOwn_answer hx hplace,
      hgrant (s.ownCounted.setAnswer none) rfl]
    rfl
  · rw [exec_replyFrame hhearing hx hplace, State.replyEnds_status hr hstatus, State.heardOwn_answer hx hplace,
      hgrant (s.ownCounted.setAnswer none).statusSent (by simp [State.statusSent]), hown]
    simp only [State.statusSent, State.setAnswer, State.setFlags, State.setMixer, State.setUnderruns, beq_eq_decide, hmixer]
    rfl
  · have hsending : s.sendingFrom .report = true := by simp [State.sendingFrom, hx, hplace]
    have hexec : exec .reportFrame s = .next s.heardOwn.grant := by
      simp only [exec, execReportFrame, hsending, if_true, frameEvent_hearing hhearing]
      rfl
    rw [hexec, State.heardOwn_report hx hplace,
      hgrant (s.ownCounted.setReports s.ownCounted.reports.tail) rfl, hown]
    rfl

end Sys2Proof.Machine
end

section
/-! Frames of peer parts: the Roster's entries, a clash of laptop numbers, the own BEAT (R134 to R137, R148, R149). -/

namespace Sys2Proof.Machine

/-! ## A good frame that is not the station's own (R134, R136, R137, R149) -/

theorem State.counted_keeps (s : State) (r : Receiver) : KeepsLine s (s.counted r) := by
  rw [← State.countGood_eq]
  simp [KeepsLine]

/-- A good frame of another station is counted (R134). -/
theorem State.frameEnds_other {s : State} {role laptop : Nat} (h : ¬ (role = 1 ∧ laptop = s.laptop.toNat)) :
    s.frameEnds false role laptop = s.counted (s.link.receiverAfterGood false) := by
  have hlaptop := (s.counted_keeps (s.link.receiverAfterGood false)).2.1
  have hclash : ¬ (true = true ∧ role = 1 ∧ laptop = s.laptop.toNat) := fun hclash => h hclash.2
  simp only [true_and] at hclash
  simp only [State.frameEnds, State.countGood_eq, hlaptop, Bool.false_eq_true, if_false, true_and, if_neg hclash]

/-- A good frame with the station's own laptop number and role 1, that is not its own, is a clash (R137). -/
theorem State.frameEnds_clash (s : State) :
    s.frameEnds false 1 s.laptop.toNat = (s.counted (s.link.receiverAfterGood false)).seeClash := by
  have hlaptop := (s.counted_keeps (s.link.receiverAfterGood false)).2.1
  simp only [State.frameEnds, State.countGood_eq, hlaptop]
  rfl

theorem toNat_ne {l k : BitVec 3} (h : l ≠ k) : l.toNat ≠ k.toNat := fun heq => h (BitVec.eq_of_toNat_eq heq)

/-- A good frame of a peer part reaches the Roster (R149). -/
theorem State.heardPart_peer {s : State} {f : Frame} {l : BitVec 3} (hown : s.isOwn f = false) (hpeer : l ≠ s.laptop) :
    s.heardPart f l = (s.counted (s.link.receiverAfterGood false)).heardPeer l.toNat := by
  have hlaptop := (s.counted_keeps (s.link.receiverAfterGood false)).2.1
  rw [State.heardPart, hown, State.frameEnds_other (fun h => toNat_ne hpeer h.2), State.rosterHears, hlaptop,
    if_neg (toNat_ne hpeer)]

theorem State.isOwn_none {s : State} (h : s.link.inFlight = none) (f : Frame) : s.isOwn f = false := by
  simp [State.isOwn, h]

/-! ## Roster entries (R148, R149) -/

theorem rosterAt_set_self {roster : List (Option RosterEntry)} {n : Nat} (h : n < roster.length) (x : Option RosterEntry) :
    rosterAt (roster.set n x) n = x := by
  simp [rosterAt, List.getElem?_set_self h]

theorem State.heardPeer_some {s : State} {n : Nat} {e : RosterEntry} (h : rosterAt s.roster n = some e) :
    s.heardPeer n = s.setRoster (s.roster.set n (some { e with age := 0 })) := by
  simp only [State.heardPeer, h]

theorem State.heardPeer_none {s : State} {n : Nat} (h : rosterAt s.roster n = none) :
    s.heardPeer n = (s.post (.peer .joined n)).setRoster
      (s.roster.set n (some { identity := none, age := 0, placed := 0, onLetters := 0, dealt := 0 })) := by
  simp only [State.heardPeer, h, State.post_setRoster]

theorem State.updatePeer_some {s : State} {n : Nat} {e : RosterEntry} (h : rosterAt s.roster n = some e)
    (f : RosterEntry → RosterEntry) : s.updatePeer n f = s.setRoster (s.roster.set n (some (f e))) := by
  simp only [State.updatePeer, h]

/-- The entry just heard is the one that an update changes (R149). -/
theorem State.updatePeer_set {s : State} {n : Nat} {roster : List (Option RosterEntry)} (h : n < roster.length)
    (e : RosterEntry) (f : RosterEntry → RosterEntry) :
    (s.setRoster (roster.set n (some e))).updatePeer n f = s.setRoster (roster.set n (some (f e))) := by
  rw [State.updatePeer_some (s := s.setRoster _) (rosterAt_set_self h (some e))]
  show s.setRoster ((roster.set n (some e)).set n (some (f e))) = _
  rw [List.set_set]

/-- A peer's entry just heard takes the list identity of its BEAT (R149). -/
theorem State.noteIdentity_set {s : State} {n : Nat} {roster : List (Option RosterEntry)} (hpeer : n ≠ s.laptop.toNat)
    (h : n < roster.length) (e : RosterEntry) (identity : BitVec 16) :
    (s.setRoster (roster.set n (some e))).noteIdentity n identity =
      s.setRoster (roster.set n (some { e with identity := some identity })) := by
  exact (if_neg hpeer).trans (State.updatePeer_set h e _)

/-! ## BEAT and other frames (R137, R149) -/

theorem exec_beatFrame {s : State} (h : s.hearing = true) (precedence : Byte) (l : BitVec 3) (identity : BitVec 16)
    (summary lastTag : Byte) :
    exec (.beatFrame precedence l identity summary lastTag) s =
      .next ((s.heardPart (partFrame 1 precedence l (bytes16 identity ++ [summary, lastTag])) l).noteIdentity l.toNat
        identity).grant := by
  simp only [exec, execBeatFrame, frameEvent_hearing h]
  rfl

theorem exec_otherFrame {s : State} (h : s.hearing = true) (precedence kind : Byte) (body : List Byte) :
    exec (.otherFrame precedence kind body) s = .next (
      if kind.toNat % 2 = 1 then
        (s.frameEnds false (kind.toNat % 2) (kind.toNat / 2 % 8)).rosterHears (kind.toNat / 2 % 8)
      else s.frameEnds false (kind.toNat % 2) (kind.toNat / 2 % 8)).grant := by
  simp only [exec, execOtherFrame, frameEvent_hearing h]
  rfl

/-- A clash of laptop numbers on a CLEAR link (R137). -/
theorem State.seeClash_eq (s : State) :
    s.seeClash = { s.post (.link .clash) with
      flags := { (s.post (.link .clash)).flags with numberClash := true }, link := { s.link with clashHold := 3 } } := by
  let t := s.setFlags { s.flags with numberClash := true }
  have hsees : s.seeClash = (t.post (.link .clash)).setLink { (t.post (.link .clash)).link with clashHold := 3 } := rfl
  by_cases hroom : s.reports.length < 16
  · have hposted : t.post (.link .clash) = t.setReports (s.reports ++ [.link .clash]) := if_pos hroom
    rw [hsees, hposted, State.post_of_room hroom]
    rfl
  · have hposted : t.post (.link .clash) = t.setFlags { t.flags with reportOverflow := true } := if_neg hroom
    rw [hsees, hposted, State.post_of_full (Nat.le_of_not_lt hroom)]
    rfl

/-- Settles O45: the Roster's entry of the sender, or the clash, or the own BEAT's entry. -/
theorem partFramesHeard : Obligations.PartFramesHeard := by
  constructor
  · intro s l precedence kind summary lastTag identity body hhearing hsettled hclear hfree hlength counted new
    have hcounted : s.counted (s.link.receiverAfterGood false) = counted := by
      rw [State.counted_clear hclear]
      simp [Link.receiverAfterGood, hfree, counted]
    have hplace : l.toNat < s.roster.length := by
      rw [hlength]
      exact l.isLt
    have hgrant (t : State) (hport : t.port = s.port) : t.grant = t :=
      State.grant_settled (portSettled_of_port_eq hport hsettled)
    have hbeat (hpeer : l ≠ s.laptop) : exec (.beatFrame precedence l identity summary lastTag) s =
        .next ((counted.heardPeer l.toNat).noteIdentity l.toNat identity).grant := by
      rw [exec_beatFrame hhearing, State.heardPart_peer (State.isOwn_none hfree _) hpeer, hcounted]
    have hother (hpeer : l ≠ s.laptop) (hsender : kind.toNat / 2 % 8 = l.toNat) (hrole : kind.toNat % 2 = 1) :
        exec (.otherFrame precedence kind body) s = .next (counted.heardPeer l.toNat).grant := by
      rw [exec_otherFrame hhearing, if_pos hrole, hsender, State.frameEnds_other (fun h => toNat_ne hpeer h.2), hcounted,
        State.rosterHears, if_neg (show ¬ l.toNat = counted.laptop.toNat from toNat_ne hpeer)]
    refine ⟨fun e he hpeer => ?_, fun hnone hpeer => ?_, fun hrole => ?_⟩
    · have hheard := State.heardPeer_some (s := counted) he
      refine ⟨?_, fun hsender hrole => ?_⟩
      · rw [hbeat hpeer, hheard, State.noteIdentity_set (s := counted) (toNat_ne hpeer) hplace]
        exact congrArg Host.Outcome.next (hgrant _ rfl)
      · rw [hother hpeer hsender hrole, hheard]
        exact congrArg Host.Outcome.next (hgrant _ rfl)
    · have hheard := State.heardPeer_none (s := counted) hnone
      have hport (x : List (Option RosterEntry)) : ((counted.post (.peer .joined l.toNat)).setRoster x).port = s.port := by
        simp [counted]
      have hlaptop : (counted.post (.peer .joined l.toNat)).laptop = s.laptop := by simp [counted]
      refine ⟨?_, fun hsender hrole => ?_⟩
      · rw [hbeat hpeer, hheard, State.noteIdentity_set (by rw [hlaptop]; exact toNat_ne hpeer) hplace]
        exact congrArg Host.Outcome.next (hgrant _ (hport _))
      · rw [hother hpeer hsender hrole, hheard]
        exact congrArg Host.Outcome.next (hgrant _ (hport _))
    · rw [exec_otherFrame hhearing, if_neg (by omega), State.frameEnds_other (by omega), hcounted]
      exact congrArg Host.Outcome.next (hgrant _ rfl)
  · intro s precedence kind summary lastTag identity body hhearing hsettled hclear f clashed
    have hgrant (t : State) (hport : t.port = s.port) : t.grant = t :=
      State.grant_settled (portSettled_of_port_eq hport hsettled)
    have hclash : s.frameEnds false 1 s.laptop.toNat = clashed := by
      have hcounted : s.counted (s.link.receiverAfterGood false) = s.setLink { s.link with
          receiver := if s.link.inFlight.isSome then s.link.receiver else .gapWait 0, badRun := 0 } := by
        rw [State.counted_clear hclear]
        simp [Link.receiverAfterGood, State.setLink]
      rw [State.frameEnds_clash, State.seeClash_eq, hcounted, State.post_setLink]
      rfl
    have hclashPort : clashed.port = s.port := by simp [clashed]
    have hclashLaptop : clashed.laptop = s.laptop := by simp [clashed]
    refine ⟨fun hforeign => ?_, fun hsender hrole => ?_, fun hown => ?_⟩
    · have hnotOwn : s.isOwn f = false := by
        cases hx : s.link.inFlight with
        | none => exact State.isOwn_none hx f
        | some x => simpa [State.isOwn, hx] using hforeign x hx
      have hheard : s.heardPart f s.laptop = clashed := by
        rw [State.heardPart, hnotOwn, hclash, State.rosterHears, if_pos (by rw [hclashLaptop])]
      have hexec := exec_beatFrame hhearing precedence s.laptop identity summary lastTag
      rw [show partFrame 1 precedence s.laptop (bytes16 identity ++ [summary, lastTag]) = f from rfl, hheard,
        State.noteIdentity, if_pos (by rw [hclashLaptop]), hgrant _ hclashPort] at hexec
      exact hexec
    · rw [exec_otherFrame hhearing, if_pos hrole, hsender, hrole, hclash, State.rosterHears, if_pos (by rw [hclashLaptop])]
      exact congrArg Host.Outcome.next (hgrant _ hclashPort)
    · have hisOwn : s.isOwn f = true := by simp [State.isOwn, hown]
      have hheard : s.heardPart f s.laptop = s.ownCounted := by
        rw [State.heardPart, hisOwn, ← State.heardOwn_queue hown rfl]
        exact if_pos (by simp)
      have hcounted : s.ownCounted = s.setLink { s.link with
          receiver := .gapWait 0, badRun := 0, inFlight := none, queue := s.link.queue.filter (fun e => !e.sending) } := by
        rw [State.ownCounted, State.counted_clear hclear]
        rfl
      have hexec := exec_beatFrame hhearing precedence s.laptop identity summary lastTag
      rw [show partFrame 1 precedence s.laptop (bytes16 identity ++ [summary, lastTag]) = f from rfl, hheard, hcounted]
        at hexec
      exact hexec.trans (congrArg Host.Outcome.next ((congrArg State.grant (if_pos rfl)).trans (hgrant _ rfl)))

end Sys2Proof.Machine
end

section
/-! LETTER frames (R35, R38, R40, R42, R162, R163, R166): the own letter's landing, the letters ignored, the word lost. -/

namespace Sys2Proof.Machine

/-! ## What a part's frame reaches before its kind is looked at (R134 to R137, R149) -/

/-- From s to t, only the Link Interface, the Roster, the answer slot, flags and records may have changed. -/
abbrev KeepsHearing (s t : State) : Prop :=
  t.pending = s.pending ∧ t.laptop = s.laptop ∧ t.power = s.power ∧ t.scanner = s.scanner ∧ t.words = s.words ∧
  t.loader = s.loader ∧ t.progress = s.progress ∧ t.previous = s.previous ∧ t.windows = s.windows ∧
  t.setup = s.setup ∧ t.staged = s.staged ∧ t.attempt = s.attempt ∧ t.judge = s.judge ∧ t.round = s.round ∧
  t.store = s.store ∧ t.voiceA = s.voiceA ∧ t.voiceB = s.voiceB ∧ t.underruns = s.underruns ∧ t.port = s.port ∧
  t.mixer = s.mixer

@[simp] theorem State.heardPart_keeps (s : State) (f : Frame) (l : BitVec 3) : KeepsHearing s (s.heardPart f l) := by
  unfold State.heardPart
  simp [KeepsHearing]

theorem State.heardPart_freeToSpeak {s : State} (h : s.freeToSpeak) (f : Frame) (l : BitVec 3) :
    (s.heardPart f l).freeToSpeak := h.congr (by simp) (by simp) (by simp)

theorem State.heardPart_grant {s : State} (h : s.portSettled) (f : Frame) (l : BitVec 3) :
    (s.heardPart f l).grant = s.heardPart f l := State.grant_settled (portSettled_of_port_eq (by simp) h)

theorem exec_letterFrame {s : State} (h : s.hearing = true) (precedence : Byte) (l : BitVec 3)
    (tag position letter check : Byte) :
    exec (.letterFrame precedence l tag position letter check) s =
      let f := letterOf precedence l tag position letter check
      .next ((s.heardPart f l).takeLetter (s.isOwn f) l.toNat tag.toNat position.toNat letter.toNat check.toNat).grant := by
  simp only [exec, execLetterFrame, frameEvent_hearing h]
  rfl

/-! ## A LETTER handed to the Round Controller (R162) -/

/-- A LETTER outside the round, out of range, or landed already is ignored (R162). -/
theorem State.takeLetter_ignored {s : State} {tag position letter : Nat}
    (h : s.round.state.circleOpen = false ∨ s.round.state = .circleLost ∨ s.round.tag ≠ some tag ∨ position = 0 ∨
      20 < position ∨ letter = 0 ∨ 26 < letter ∨ position ≤ s.attempt.landed.length) (own : Bool) (laptop check : Nat) :
    s.takeLetter own laptop tag position letter check = s := by
  unfold State.takeLetter
  split
  · rfl
  · rename_i hin
    have hletter : ¬ (letter = 0 ∨ 26 < letter) := by
      intro hout
      exact hin (.inr (.inr (.inr (.inr (by simp [letterCode]; omega)))))
    rw [if_pos]
    simp only [not_or, not_not] at hin
    obtain ⟨hopen, hlost, htag, hposition, -⟩ := hin
    obtain h | h | h | h | h | h | h | h := h
    · exact absurd h hopen
    · exact absurd h hlost
    · exact absurd htag h
    all_goals omega

/-- A LETTER within range at a player or a spectator of its round, not yet landed (R162). -/
theorem State.takeLetter_fits {s : State} {tag position letter : Nat} (hopen : s.round.state.circleOpen = true)
    (hlost : s.round.state ≠ .circleLost) (htag : s.round.tag = some tag) (hposition : position ≤ 20)
    (hlow : 1 ≤ letter) (hhigh : letter ≤ 26) (hahead : s.attempt.landed.length < position) (own : Bool)
    (laptop check : Nat) :
    s.takeLetter own laptop tag position letter check =
      if position = s.attempt.landed.length + 1 then
        if own = true ∧ s.attempt.pending ≠ [] then s.landOwn
        else if check = s.expectedCheck letter then
          if s.round.state.player then s.landPeer laptop letter else s.landSpectator laptop letter
        else s.loseWord
      else s.loseWord := by
  unfold State.takeLetter
  rw [if_neg, if_neg (by omega)]
  simp only [hopen, hlost, htag, letterCode, not_or]
  refine ⟨by simp, by simp, by simp, by omega, ?_⟩
  simp
  omega

/-! ## The word lost (R38, R166) -/

theorem State.loseWord_spectator {s : State} (hspeak : s.freeToSpeak) (hstate : s.round.state = .circleSpectator) :
    s.loseWord.grant = ({ s with round := { s.round with state := .circleLost } } : State).saying .round 2 71 [] := by
  have hlose : s.loseWord = (s.speakRound [71]).setRoundState .circleLost := by
    simp only [State.loseWord, hstate]
    rfl
  rw [hlose, hspeak.speakRound]
  refine State.grant_saying (s := s) ?_ ?_ ?_ ?_ <;> rfl

theorem State.loseWord_player {s : State} (hspeak : s.freeToSpeak) (hplayer : s.round.state.player = true) :
    s.loseWord.grant = ({ s with
      link := { s.link with queue := withoutRoundFrames s.link.queue }
      round := { s.round with
        state := .circleLost, misses := if s.attempt.pending = [] then s.round.misses else 0 }
      attempt := { s.attempt with target := none, pending := [] }
      judge := { s.judge with rows := [] } } : State).saying .round 2 71 [] := by
  let u : State := s.removeRoundFrames.releaseTarget
  have hu : u = { s with
      link := { s.link with queue := withoutRoundFrames s.link.queue }
      round := { s.round with misses := if s.attempt.pending = [] then s.round.misses else 0 }
      attempt := { s.attempt with target := none, pending := [] }
      judge := { s.judge with rows := [] } } := by
    simp only [u, State.releaseTarget_eq, State.removeRoundFrames_eq]
    rfl
  have hlose : s.loseWord = (u.speakRound [71]).setRoundState .circleLost := by
    simp only [State.loseWord, hplayer]
    rfl
  have hspeak' : u.freeToSpeak := by
    rw [hu]
    exact hspeak
  rw [hlose, hspeak'.speakRound, hu]
  refine State.grant_saying (s := s) ?_ ?_ ?_ ?_ <;> rfl

/-- Settles O50: what R162 ignores, and the loss of the word at a spectator and at a player. -/
theorem letterIgnoredOrLost : Obligations.LetterIgnoredOrLost := by
  intro s l precedence tag position letter check hhearing f u n
  have hround : u.round = s.round := by simp [u]
  have hattempt : u.attempt = s.attempt := by simp [u]
  have hjudge : u.judge = s.judge := by simp [u]
  have hexec := exec_letterFrame hhearing precedence l tag position letter check
  refine ⟨fun hsettled hignored => ?_, fun hspeak htag hlow hhigh hposition hwrong => ?_⟩
  · rw [hexec]
    simp only
    rw [State.takeLetter_ignored (s := u) (by rwa [hround, hattempt]), State.heardPart_grant hsettled]
  · have hspeak' : u.freeToSpeak := State.heardPart_freeToSpeak hspeak f l
    have hlose (hopen : s.round.state.circleOpen = true) (hlost : s.round.state ≠ .circleLost) :
        u.takeLetter (s.isOwn f) l.toNat tag.toNat position.toNat letter.toNat check.toNat = u.loseWord := by
      rw [State.takeLetter_fits (by rwa [hround]) (by rwa [hround]) (by rwa [hround]) hposition hlow hhigh
        (by rw [hattempt]; omega)]
      rw [hattempt]
      obtain hahead | ⟨hnext, hother, hcheck⟩ := hwrong
      · rw [if_neg (by omega)]
      · have hexpected : u.expectedCheck letter.toNat = prefixCheck (s.attempt.landed ++ [letter.toNat]) := by
          rw [State.expectedCheck, hattempt]
        rw [if_pos hnext, hother, if_neg (by simp), hexpected, if_neg hcheck]
    refine ⟨fun hstate => ?_, fun hstate => ?_⟩
    · have hlost := State.loseWord_spectator hspeak' (by rw [hround, hstate])
      rw [hround] at hlost
      rw [hexec]
      simp only
      rw [hlose (by rw [hstate]; rfl) (by rw [hstate]; nofun), hlost]
    · have hplayer : s.round.state.player = true := by obtain h | h := hstate <;> rw [h] <;> rfl
      have hlost := State.loseWord_player hspeak' (by rw [hround, hplayer])
      rw [hround, hattempt, hjudge] at hlost
      rw [hexec]
      simp only
      rw [hlose (by obtain h | h := hstate <;> rw [h] <;> rfl) (by obtain h | h := hstate <;> rw [h] <;> nofun), hlost]

/-! ## The own letter lands (R35, R163) -/

/-- The first pending letter lands, echoed with the verdict of the row pushed for it (R35, R40, R42, R163). -/
theorem State.landOwn_grant {s : State} {x : Nat} {row : Row} (hspeak : s.freeToSpeak)
    (hpending : s.attempt.pending.head? = some x) (hrow : s.judge.row (s.attempt.landed.length + 1) = some row) :
    s.landOwn.grant = ({ s with
      attempt := { s.attempt with landed := s.attempt.landed ++ [x], pending := s.attempt.pending.tail }
      round := { s.round with misses := 0, circleTimer := .running 45 } } : State).saying .own 1
        (if s.setup.letterVoice = .name then x else x + 26)
        (if s.setup.style = .coached ∧ row.verdict s.setup.closeLimit = .off then [60] else []) := by
  obtain ⟨rest, hrest⟩ := List.head?_eq_some_iff.mp hpending
  let u : State := { s with
    attempt := { s.attempt with landed := s.attempt.landed ++ [x], pending := rest }
    round := { s.round with misses := 0, circleTimer := .running 45 } }
  have hspeak' : u.freeToSpeak := hspeak
  have hland : s.landOwn = u.echoOwn x (row.verdict s.setup.closeLimit) := by
    simp only [State.landOwn, hrest, hrow]
    rfl
  rw [hland, hspeak'.echo, hrest]
  rfl

/-- Settles O48: the frame is the station's own, a letter is pending, and it lands. -/
theorem ownLetterLands : Obligations.OwnLetterLands := by
  intro s t htag precedence tag position letter check hhearing hspeak hstate ht hlow hhigh hnext hposition hown x hx row hrow
  let f := letterOf precedence s.laptop tag position letter check
  let u := s.heardPart f s.laptop
  have hround : u.round = s.round := by simp [u]
  have hattempt : u.attempt = s.attempt := by simp [u]
  have hjudge : u.judge = s.judge := by simp [u]
  have hsetup : u.setup = s.setup := by simp [u]
  have hpending : s.attempt.pending ≠ [] := by
    intro hnone
    simp [hnone] at hx
  have hlands : u.takeLetter (s.isOwn f) s.laptop.toNat tag.toNat position.toNat letter.toNat check.toNat = u.landOwn := by
    rw [State.takeLetter_fits (by rw [hround, hstate]; rfl) (by rw [hround, hstate]; nofun) (by rw [hround, htag, ht])
      hposition hlow hhigh (by rw [hattempt]; omega), hattempt, if_pos hnext, if_pos ⟨hown, hpending⟩]
  have hgrant := State.landOwn_grant (s := u) (x := x) (row := row) (State.heardPart_freeToSpeak hspeak f s.laptop)
    (by rw [hattempt, hx]) (by rw [hjudge, hattempt, hrow])
  rw [hround, hattempt] at hgrant
  rw [exec_letterFrame hhearing, ← hsetup]
  exact congrArg Host.Outcome.next ((congrArg State.grant hlands).trans hgrant)

end Sys2Proof.Machine
end

section
/-! DEAL frames (R148, R149, R152, R153, R156 to R158): the Roster, the circle round that opens, the deal that is decided. -/

namespace Sys2Proof.Machine

/-! ## What a DEAL reaches before the Round Controller (R149) -/

@[simp] theorem State.countDeal_keeps (s : State) (n : Nat) : KeepsRoster s (s.countDeal n) := by
  unfold State.countDeal
  split <;> simp [KeepsRoster]

theorem exec_dealFrame {s : State} (h : s.hearing = true) (precedence : Byte) (l : BitVec 3) (identity : BitVec 16)
    (word tag count : Byte) :
    exec (.dealFrame precedence l identity word tag count) s =
      let f := dealOf precedence l identity word tag count
      .next (((s.heardPart f l).countDeal l.toNat).takeDeal (s.isOwn f) identity word.toNat tag.toNat count.toNat).grant := by
  simp only [exec, execDealFrame, frameEvent_hearing h]
  rfl

theorem State.counted_answer (s : State) (r : Receiver) : (s.counted r).answer = s.answer := by
  by_cases hclears : s.clearsNow
  · simp only [State.counted, if_pos hclears, State.post_keeps]
  · simp only [State.counted, if_neg hclears]

/-- A frame of another station leaves the answer slot as it was (R134, R137, R149). -/
theorem State.heardPart_answer {s : State} {f : Frame} (hown : s.isOwn f = false) (l : BitVec 3) :
    (s.heardPart f l).answer = s.answer := by
  have hends : (s.frameEnds false 1 l.toNat).answer = s.answer := by
    by_cases hclash : l.toNat = s.laptop.toNat
    · rw [hclash, State.frameEnds_clash, State.seeClash_eq]
      simp [State.counted_answer]
    · rw [State.frameEnds_other (fun h => hclash h.2), State.counted_answer]
  rw [State.heardPart, hown, ← hends]
  simp

theorem State.countDeal_set {s : State} {n : Nat} {roster : List (Option RosterEntry)} {e : RosterEntry}
    (hplace : n < roster.length) (hpeer : n ≠ s.laptop.toNat) :
    (s.setRoster (roster.set n (some e))).countDeal n =
      s.setRoster (roster.set n (some { e with dealt := raise 255 e.dealt })) :=
  (if_neg hpeer).trans (State.updatePeer_set hplace _ _)

/-- The Roster after a DEAL (R148, R149). -/
theorem State.countDeal_roster {s : State} (hlength : s.roster.length = 8) (f : Frame) (l : BitVec 3) :
    let u := (s.heardPart f l).countDeal l.toNat
    (l = s.laptop → u.roster = s.roster) ∧
    (l ≠ s.laptop →
      (∀ e, rosterAt s.roster l.toNat = some e →
        u.roster = s.roster.set l.toNat (some { e with age := 0, dealt := min 255 (e.dealt + 1) })) ∧
      (rosterAt s.roster l.toNat = none →
        u.roster = s.roster.set l.toNat (some { identity := none, age := 0, placed := 0, onLetters := 0, dealt := 1 }))) := by
  intro u
  let t := s.frameEnds (s.isOwn f) 1 l.toNat
  have hroster : t.roster = s.roster := by simp [t]
  have hlaptop : t.laptop = s.laptop := by simp [t]
  have hplace : l.toNat < t.roster.length := by
    rw [hroster, hlength]
    exact l.isLt
  refine ⟨fun hself => ?_, fun hpeer => ⟨fun e he => ?_, fun hnone => ?_⟩⟩
  · have hheard : s.heardPart f l = t := if_pos (by rw [hlaptop, hself])
    have hu : u = t := by
      simp only [u, hheard]
      exact if_pos (by rw [hlaptop, hself])
    rw [hu, hroster]
  · have hheard : s.heardPart f l = t.setRoster (t.roster.set l.toNat (some { e with age := 0 })) :=
      (if_neg (by rw [hlaptop]; exact toNat_ne hpeer)).trans (State.heardPeer_some (by rw [hroster, he]))
    simp only [u, hheard]
    rw [State.countDeal_set hplace (by rw [hlaptop]; exact toNat_ne hpeer), ← hroster]
    rfl
  · have hheard : s.heardPart f l = (t.post (.peer .joined l.toNat)).setRoster (t.roster.set l.toNat
        (some { identity := none, age := 0, placed := 0, onLetters := 0, dealt := 0 })) :=
      (if_neg (by rw [hlaptop]; exact toNat_ne hpeer)).trans (State.heardPeer_none (by rw [hroster, hnone]))
    simp only [u, hheard]
    rw [State.countDeal_set hplace (by simpa [hlaptop] using toNat_ne hpeer), ← hroster]
    rfl

/-! ## The circle round that opens (R153, R158) -/

/-- The join test of R158. -/
theorem State.joins_iff {s : State} (hcircle : s.setup.circle = true) (identity : BitVec 16) (word count : Nat) :
    s.joins identity word count = true ↔ s.link.state = .clear ∧ s.words.state = .ready ∧ identity = s.words.identity ∧
      (∃ r ∈ s.wordAt word, r.usable = true ∧ r.letters.length = count) ∧ s.excluded word = false := by
  cases hword : s.wordAt word <;> simp [State.joins, hcircle, hword, and_assoc]

/-- The facts of a circle round as it opens (R153). -/
def State.circleFacts (s : State) (state : RoundState) (word tag : Nat) : Round :=
  { s.round with
    state := state, kind := some .circle, word := some word, tag := some tag, soloTimer := .stopped
    circleTimer := .running 45, hints := 0, nextRepeat := .word, marked := none, assists := 0, misses := 0, deal := none }

/-- A station that joins opens the round as a player: target, R0 and the marked prompt (R67, R158). -/
theorem State.openCircle_player {s : State} {identity : BitVec 16} {word count : Nat} {r : WordRecord}
    (hspeak : s.freeToSpeak) (hjoins : s.joins identity word count = true) (hword : s.wordAt word = some r) (tag : Nat) :
    (s.openCircle identity word tag count).grant = { s with
      round := { s.circleFacts .circleOpening word tag with marked := some s.round.marks, marks := s.round.marks + 1 }
      attempt := { target := some word, landed := [], pending := [] }
      judge := { s.judge with rows := [rowZero r.letters.length] }
      voiceA := s.speaking .A (s.remark .round 2 53 false) [s.remark .round 2 r.sayPhrase true]
      port := s.portAsked (.voice .A) (.phraseDirectory 53) } := by
  let u : State := { s with
    round := s.circleFacts .circleOpening word tag, attempt := { target := some word, landed := [], pending := [] }
    judge := { s.judge with rows := [rowZero r.letters.length] } }
  have hopened : s.openCircle identity word tag count = u.queuePrompt := by
    simp only [State.openCircle, hjoins, if_true]
    rw [State.takeTarget_of_word (s := s.openFacts .circle word (some tag) (.running Config.circleSeconds)) hword]
    rfl
  have hspeaking : u.speaking = s.speaking := State.speaking_congr rfl
  have hremark : u.remark = s.remark := State.remark_congr rfl rfl
  rw [hopened, State.queuePrompt_split (s := u) hspeak.1 hspeak.2.1 rfl hword, hspeaking, hremark]
  exact State.grant_asked (s := s) rfl

/-- A station that does not join is a spectator, with "listen this time" (R158). -/
theorem State.openCircle_spectator {s : State} {identity : BitVec 16} {word count : Nat} (hspeak : s.freeToSpeak)
    (hjoins : s.joins identity word count = false) (tag : Nat) :
    (s.openCircle identity word tag count).grant = ({ s with
      round := s.circleFacts .circleSpectator word tag, attempt := { target := none, landed := [], pending := [] }
      judge := { s.judge with rows := [] } } : State).saying .round 2 63 [] := by
  let u : State := { s with
    round := s.circleFacts .circleSpectator word tag, attempt := { target := none, landed := [], pending := [] }
    judge := { s.judge with rows := [] } }
  have hopened : s.openCircle identity word tag count = u.speakRound [63] := by
    simp only [State.openCircle, hjoins, Bool.false_eq_true, if_false]
    rfl
  have hspeak' : u.freeToSpeak := hspeak
  rw [hopened, hspeak'.round 63 (Nat.zero_le _)]

/-! ## The DEAL at the Round Controller (R152, R156, R157) -/

/-- The state with the DEAL's tag as the last tag (R152). -/
def State.noted (s : State) (tag : Nat) : State := { s with round := { s.round with lastTag := tag % 16 } }

theorem State.takeDeal_opens {s : State} (hidle : s.round.state = .idle) (hcircle : s.setup.circle = true)
    (hdoze : s.goingToDoze = false) (identity : BitVec 16) (word tag count : Nat) :
    s.takeDeal false identity word tag count = (s.noted tag).openCircle identity word (tag % 16) count := by
  have hstate : (s.setRound { s.round with lastTag := tag % 16 }).round.state = .idle := hidle
  simp only [State.takeDeal, hstate]
  exact if_pos ⟨trivial, hcircle, hdoze⟩

/-- A DEAL that opens no round changes the last tag alone (R152, R156, R157). -/
theorem State.takeDeal_noted {s : State} {own : Bool}
    (h : (s.round.state ≠ .idle ∧ s.round.state ≠ .circleDealing) ∨
      (s.round.state = .idle ∧ (own = true ∨ s.setup.circle = false ∨ s.goingToDoze = true)))
    (identity : BitVec 16) (word tag count : Nat) : s.takeDeal own identity word tag count = s.noted tag := by
  obtain ⟨hidle, hdealing⟩ | ⟨hidle, hout⟩ := h
  · cases hstate : s.round.state <;> simp_all [State.takeDeal, State.setRound, State.noted]
  · have hstate : (s.setRound { s.round with lastTag := tag % 16 }).round.state = .idle := hidle
    simp only [State.takeDeal, hstate]
    refine if_neg fun hopens => ?_
    obtain ⟨hother, hcircle, hdoze⟩ := hopens
    obtain h | h | h := hout
    · exact Bool.noConfusion (h.symm.trans hother)
    · exact Bool.noConfusion (h.symm.trans hcircle)
    · exact Bool.noConfusion (h.symm.trans hdoze)

theorem State.takeDeal_dealt {s : State} {d : DealFacts} (hdealing : s.round.state = .circleDealing)
    (hdeal : s.round.deal = some d) (identity : BitVec 16) (word tag count : Nat) :
    s.takeDeal true identity word tag count =
      ((s.noted tag).post (.deal .dealt d.tag d.word)).openCircle identity word (tag % 16) count := by
  have hstate : (s.setRound { s.round with lastTag := tag % 16 }).round.state = .circleDealing := hdealing
  have hfacts : (s.setRound { s.round with lastTag := tag % 16 }).round.deal = some d := hdeal
  simp only [State.takeDeal, hstate, hfacts, if_true]
  rfl

theorem State.takeDeal_outdealt {s : State} (hdealing : s.round.state = .circleDealing) (identity : BitVec 16)
    (word tag count : Nat) :
    s.takeDeal false identity word tag count =
      (((s.noted tag).removeKind .deal).post (.deal .outdealt (tag % 16) word)).openCircle identity word (tag % 16)
        count := by
  have hstate : (s.setRound { s.round with lastTag := tag % 16 }).round.state = .circleDealing := hdealing
  simp only [State.takeDeal, hstate, Bool.false_eq_true, if_false]
  rfl

/-- What a DEAL's hearing leaves for the Round Controller to find. -/
theorem State.heardDeal_keeps (s : State) (f : Frame) (l : BitVec 3) :
    KeepsHearing s ((s.heardPart f l).countDeal l.toNat) := by
  simp [KeepsHearing]

theorem State.heardDeal_answer {s : State} {f : Frame} (hown : s.isOwn f = false) (l : BitVec 3) :
    ((s.heardPart f l).countDeal l.toNat).answer = s.answer := by
  simp [State.heardPart_answer hown]

/-- Settles O46: the round opened as player and as spectator, the own DEAL in IDLE, and the dealer's Roster entry. -/
theorem dealOpensCircleRound : Obligations.DealOpensCircleRound := by
  refine ⟨fun s precedence l identity word tag count hhearing hidle => ?_, fun s f l hlength =>
    State.countDeal_roster hlength f l⟩
  intro own u facts joins
  obtain ⟨-, -, -, -, hwords, -, -, -, hwindows, hsetup, -, hattempt, hjudge, hround, -, hvoiceA, hvoiceB, -, hport, -⟩ :
    KeepsHearing s u := State.heardDeal_keeps s _ l
  have hidle' : u.round.state = .idle := by rw [hround, hidle]
  have hexec := exec_dealFrame hhearing precedence l identity word tag count
  have hmarks : (u.noted tag.toNat).round.marks = s.round.marks := by rw [State.noted, hround]
  have hword (n : Nat) : (u.noted tag.toNat).wordAt n = s.wordAt n := by
    simp only [State.wordAt, State.noted, hwords]
  have hjoins (hcircle : s.setup.circle = true) :
      (u.noted tag.toNat).joins identity word.toNat count.toNat = true ↔ joins := by
    rw [State.joins_iff (by rw [State.noted, hsetup, hcircle]), hword]
    simp only [State.noted, hwords, State.excluded, hwindows]
    rfl
  have hopens (hown : own = false) (hcircle : s.setup.circle = true) (hdoze : s.goingToDoze = false) :
      exec (.dealFrame precedence l identity word tag count) s =
        .next ((u.noted tag.toNat).openCircle identity word.toNat (tag.toNat % 16) count.toNat).grant := by
    have hdoze' : u.goingToDoze = false := by
      simpa only [State.goingToDoze, u, State.heardDeal_answer hown] using hdoze
    rw [hexec]
    refine congrArg Host.Outcome.next (congrArg State.grant ?_)
    show u.takeDeal own _ _ _ _ = _
    rw [hown, State.takeDeal_opens hidle' (by rw [hsetup, hcircle]) hdoze']
  refine ⟨fun hown hcircle hdoze hspeak hjoin r hr => ?_, fun hown hcircle hdoze hspeak hjoin => ?_,
    fun hown hsettled => ?_⟩
  · have hspeak' : (u.noted tag.toNat).freeToSpeak := hspeak.congr hsetup hvoiceA hport
    rw [hopens hown hcircle hdoze, State.openCircle_player hspeak' ((hjoins hcircle).2 hjoin) ((hword _).trans hr),
      State.speaking_congr (s := s) (t := u.noted tag.toNat) hsetup,
      State.remark_congr (s := s) (t := u.noted tag.toNat) hsetup hmarks,
      State.portAsked_congr (s := s) (t := u.noted tag.toNat) hport]
    simp only [State.circleFacts, State.noted, hround, hjudge, facts]
  · have hspeak' : (u.noted tag.toNat).freeToSpeak := hspeak.congr hsetup hvoiceA hport
    have hjoin' : (u.noted tag.toNat).joins identity word.toNat count.toNat = false :=
      Bool.eq_false_iff.2 fun h => hjoin ((hjoins hcircle).1 h)
    rw [hopens hown hcircle hdoze, State.openCircle_spectator hspeak' hjoin']
    simp only [State.circleFacts, State.noted, hround, hjudge, facts]
  · rw [hexec]
    refine congrArg Host.Outcome.next ?_
    show (u.takeDeal own _ _ _ _).grant = _
    rw [hown, State.takeDeal_noted (.inr ⟨hidle', .inl rfl⟩), State.noted, hround]
    exact State.grant_settled (portSettled_of_port_eq (s := s) hport hsettled)

/-- Settles O47: the own DEAL and another's while dealing, and the DEAL that changes the last tag alone. -/
theorem dealDecidesDealing : Obligations.DealDecidesDealing := by
  intro s precedence l identity word tag count hhearing own u noted
  obtain ⟨-, -, -, -, -, -, -, -, -, hsetup, -, -, -, hround, -, -, -, -, hport, -⟩ : KeepsHearing s u :=
    State.heardDeal_keeps s _ l
  have hnoted : u.noted tag.toNat = noted := by
    simp only [State.noted, hround, noted]
  have hexec : exec (.dealFrame precedence l identity word tag count) s =
      .next (u.takeDeal own identity word.toNat tag.toNat count.toNat).grant :=
    exec_dealFrame hhearing precedence l identity word tag count
  refine ⟨fun d hdeal hdealing hown => ?_, fun hdealing hown => ?_, fun hsettled hunchanged => ?_⟩
  · rw [hexec, hown, State.takeDeal_dealt (s := u) (by rw [hround, hdealing]) (by rw [hround, hdeal]), hnoted]
  · rw [hexec, hown, State.takeDeal_outdealt (s := u) (by rw [hround, hdealing]), hnoted]
    rfl
  · have hnotes : u.takeDeal own identity word.toNat tag.toNat count.toNat = noted := by
      rw [← hnoted]
      refine State.takeDeal_noted ?_ identity word.toNat tag.toNat count.toNat
      rw [hround, hsetup]
      obtain hstate | ⟨hidle, hcircle⟩ | ⟨hidle, hnone, r, hr, hcode, hdone⟩ := hunchanged
      · exact .inl hstate
      · exact .inr ⟨hidle, .inr (.inl hcircle)⟩
      · have hanswer : u.answer = some r := (State.heardDeal_answer (State.isOwn_none hnone _) l).trans hr
        exact .inr ⟨hidle, .inr (.inr (by simp [State.goingToDoze, hanswer, hcode, hdone, Config.codeDoze]))⟩
    rw [hexec, hnotes]
    exact congrArg Host.Outcome.next (State.grant_settled (portSettled_of_port_eq (s := s) hport hsettled))

end Sys2Proof.Machine
end

section
/-! Grading (R11, R46, R47, R73 to R79, R167 to R169): the result speech, a solo round graded, a circle round graded, the
round's timers, CLOSE frames. -/

namespace Sys2Proof.Machine

/-! ## The result speech (R76, R95) -/

/-- The Utterance Store once the result speech of a grade is composed. -/
def State.resultStore (s : State) (g : Grade) : Store :=
  if g = .perfect then s.store else (s.compose s.targetLetters).1.store

/-- The result speech behind its first entry: for a grade other than PERFECT the word spelled, when a slot is free, and
said. -/
def State.resultBehind (s : State) (g : Grade) (mark : Bool) : List Entry :=
  if g = .perfect then []
  else
    [s.remark .round 2 57 false] ++ ((s.compose s.targetLetters).2.map (fun x => s.entry .round 2 (.slot x.head) false)).toList ++
      [s.remark .round 2 s.sayPhrase mark]

theorem State.compose_setStore (s : State) (letters : List Nat) :
    (s.compose letters).1 = s.setStore (s.compose letters).1.store := by
  dsimp only [State.compose]
  split <;> rfl

theorem State.resultSpeech_eq (s : State) (g : Grade) (mark : Bool) :
    s.resultSpeech g mark = (s.setStore (s.resultStore g),
      s.remark .round 2 (verdictPhrase g) (mark && g == .perfect) :: s.resultBehind g mark) := by
  have hstore := s.compose_setStore s.targetLetters
  cases g with
  | perfect => cases mark <;> rfl
  | close | wrong | abandoned =>
    simp only [State.resultSpeech, State.resultStore, State.resultBehind, reduceCtorEq, if_false, ← hstore]
    cases mark <;> rfl

theorem State.resultBehind_length (s : State) (g : Grade) (mark : Bool) : (s.resultBehind g mark).length ≤ 6 := by
  unfold State.resultBehind
  split
  · exact Nat.zero_le _
  · cases (s.compose s.targetLetters).2 <;> simp

/-- From s to t, what the result speech is made of stays: store, setup values, words, target, round word and next mark. -/
abbrev KeepsResult (s t : State) : Prop :=
  t.store = s.store ∧ t.setup = s.setup ∧ t.words = s.words ∧ t.attempt.target = s.attempt.target ∧
  t.round.word = s.round.word ∧ t.round.marks = s.round.marks

theorem State.compose_congr {s t : State} (hstore : t.store = s.store) (hsetup : t.setup = s.setup) (letters : List Nat) :
    (t.compose letters).1.store = (s.compose letters).1.store ∧ (t.compose letters).2 = (s.compose letters).2 := by
  simp only [State.compose, hstore, hsetup]
  split
  · exact ⟨hstore, rfl⟩
  · exact ⟨rfl, rfl⟩

theorem State.resultSpeech_congr {s t : State} (h : KeepsResult s t) (g : Grade) (mark : Bool) :
    t.resultSpeech g mark = (t.setStore (s.resultStore g),
      s.remark .round 2 (verdictPhrase g) (mark && g == .perfect) :: s.resultBehind g mark) := by
  obtain ⟨hstore, hsetup, hwords, htarget, hword, hmarks⟩ := h
  have hletters : t.targetLetters = s.targetLetters := by
    simp only [State.targetLetters, State.wordAt, htarget, hwords]
  have hsay : t.sayPhrase = s.sayPhrase := by
    have hat : t.wordAt = s.wordAt := by
      funext w
      simp only [State.wordAt, hwords]
    simp only [State.sayPhrase, hword, hat]
  obtain ⟨hcomposed, hspelling⟩ := State.compose_congr hstore hsetup s.targetLetters
  have hremark : t.remark = s.remark := State.remark_congr hsetup hmarks
  have hentry (start : StartRef) : t.entry .round 2 start false = s.entry .round 2 start false := by
    simp [State.entry, hsetup]
  rw [State.resultSpeech_eq]
  simp only [State.resultStore, State.resultBehind, hletters, hsay, hcomposed, hspelling, hremark, hstore, hentry]

theorem State.resultStore_spelled (s : State) {g : Grade} (h : g = .close ∨ g = .wrong) :
    s.resultStore g = (s.compose s.targetLetters).1.store := by
  obtain rfl | rfl := h <;> rfl

theorem verdictPhrase_spelled {g : Grade} (h : g = .close ∨ g = .wrong) :
    verdictPhrase g = if g = .close then 55 else 56 := by
  obtain rfl | rfl := h <;> rfl

theorem State.resultBehind_spelled {s : State} {x : Spelling} (hx : (s.compose s.targetLetters).2 = some x) {g : Grade}
    (h : g = .close ∨ g = .wrong) (mark : Bool) :
    s.resultBehind g mark = [s.remark .round 2 57 false,
      { source := .round, priority := 2, start := .slot x.head, pitch := s.setup.ownPitch, tag := 0, markNo := none },
      s.remark .round 2 s.sayPhrase mark] := by
  obtain rfl | rfl := h <;> simp only [State.resultBehind, hx] <;> rfl

/-- With no free slot the speech goes on without the spelling (R96). -/
theorem State.resultBehind_unspelled {s : State} (hx : (s.compose s.targetLetters).2 = none) {g : Grade}
    (h : g = .close ∨ g = .wrong) (mark : Bool) :
    s.resultBehind g mark = [s.remark .round 2 57 false, s.remark .round 2 s.sayPhrase mark] := by
  obtain rfl | rfl := h <;> simp only [State.resultBehind, hx] <;> rfl

/-- No spelling, no slot taken (R96). -/
theorem State.compose_none {s : State} {letters : List Nat} (h : (s.compose letters).2 = none) :
    (s.compose letters).1.store = s.store := by
  unfold State.compose at h ⊢
  dsimp only at h ⊢
  split at h <;> simp_all

/-! ## A solo round graded (R75) -/

theorem State.post_setProgress (s : State) (x : List ProgressEntry) (r : Record) :
    (s.setProgress x).post r = (s.post r).setProgress x := by
  rw [State.post, State.post, apply_ite (State.setProgress · x)]
  rfl

theorem State.ask_port {s t : State} (h : t.port = s.port) (r : Requester) (kind : TransferKind) :
    (t.ask r kind).port = (s.ask r kind).port := by
  simp [State.ask, h]

/-- The state of a solo round graded, before its result speech (R11, R75, R77). -/
def State.soloResult (s : State) (w : Nat) (e : ProgressEntry) : State :=
  { s.post (.result .solo w s.grade s.score s.attempt.landed.length s.round.assists) with
    progress := s.progress.set w { e with box := boxAfter s.grade e.box }
    round := { s.round with soloTimer := .stopped, state := .soloReview } }

theorem State.gradeSolo_eq {s : State} {w : Nat} {e : ProgressEntry} (hword : s.round.word = some w)
    (he : s.progress[w]? = some e) :
    s.gradeSolo = ((s.soloResult w e).resultSpeech s.grade true).1.offerMarked
      ((s.soloResult w e).resultSpeech s.grade true).2 := by
  have hbox : s.updateBox w s.grade = s.setProgress (s.progress.set w { e with box := boxAfter s.grade e.box }) := by
    simp only [State.updateBox, he]
  have hrecord (x : List ProgressEntry) : (s.setProgress x).resultRecord .solo s.grade s.score =
      .result .solo w s.grade s.score s.attempt.landed.length s.round.assists := by
    simp only [State.resultRecord, State.setProgress, hword, Option.getD_some]
  simp only [State.gradeSolo, hword, Option.getD_some, hbox, hrecord, State.post_setProgress]
  simp only [State.setProgress, State.setRound, State.post_keeps, State.soloResult]

/-- A solo round graded, its result speech on a free voice A (R11, R75, R76, R77). -/
def State.soloGraded (s : State) (w : Nat) (e : ProgressEntry) (store : Store) (first : Nat) (behind : List Entry)
    (mark : Bool) : State :=
  { s.soloResult w e with
    round := { s.round with
      soloTimer := .stopped, state := .soloReview, marked := some s.round.marks, marks := s.round.marks + 1 }
    store := store
    voiceA := s.speaking .A (s.remark .round 2 first mark) behind
    port := s.portAsked (.voice .A) (.phraseDirectory first) }

theorem State.gradeSolo_grant {s : State} {w : Nat} {e : ProgressEntry} (hspeak : s.freeToSpeak)
    (hword : s.round.word = some w) (he : s.progress[w]? = some e) : 
    s.gradeSolo.grant = s.soloGraded w e (s.resultStore s.grade) (verdictPhrase s.grade) (s.resultBehind s.grade true)
      (true && s.grade == .perfect) := by
  have hkeeps : KeepsResult s (s.soloResult w e) := by
    simp [KeepsResult, State.soloResult]
  let u := (s.soloResult w e).setStore (s.resultStore s.grade)
  have hsetup : u.setup = s.setup := by simp [u, State.soloResult, State.setStore]
  have hport : u.port = s.port := by simp [u, State.soloResult, State.setStore]
  have hspeak' : u.freeToSpeak := hspeak.congr hsetup (by simp [u, State.soloResult, State.setStore]) hport
  rw [State.gradeSolo_eq hword he, State.resultSpeech_congr hkeeps,
    State.offerMarked_split hspeak'.1 hspeak'.2.1 (p := verdictPhrase s.grade) rfl (State.resultBehind_length _ _ _),
    State.grant_asked (s := s), State.speaking_congr hsetup]
  · rfl
  · exact State.ask_port (s := s) hport _ _

/-- A PERFECT result is one marked phrase (R76). -/
theorem State.gradeSolo_perfect {s : State} {w : Nat} {e : ProgressEntry} (hspeak : s.freeToSpeak)
    (hword : s.round.word = some w) (he : s.progress[w]? = some e) (hgrade : s.grade = .perfect) :
    s.gradeSolo.grant = s.soloGraded w e s.store 54 [] true := by
  rw [State.gradeSolo_grant hspeak hword he, hgrade]
  rfl

/-- The result of CLOSE or WRONG spells the word back (R76). -/
theorem State.gradeSolo_spelled {s : State} {w : Nat} {e : ProgressEntry} {x : Spelling} (hspeak : s.freeToSpeak)
    (hword : s.round.word = some w) (he : s.progress[w]? = some e) (hgrade : s.grade = .close ∨ s.grade = .wrong)
    (hx : (s.compose s.targetLetters).2 = some x) :
    s.gradeSolo.grant = s.soloGraded w e (s.compose s.targetLetters).1.store (if s.grade = .close then 55 else 56)
      [s.remark .round 2 57 false,
       { source := .round, priority := 2, start := .slot x.head, pitch := s.setup.ownPitch, tag := 0, markNo := none },
       s.remark .round 2 s.sayPhrase true] false := by
  have hplain : (true && s.grade == .perfect) = false := by
    obtain h | h := hgrade <;> rw [h] <;> rfl
  rw [State.gradeSolo_grant hspeak hword he, State.resultStore_spelled s hgrade, verdictPhrase_spelled hgrade,
    State.resultBehind_spelled hx hgrade, hplain]

theorem State.gradeSolo_unspelled {s : State} {w : Nat} {e : ProgressEntry} (hspeak : s.freeToSpeak)
    (hword : s.round.word = some w) (he : s.progress[w]? = some e) (hgrade : s.grade = .close ∨ s.grade = .wrong)
    (hx : (s.compose s.targetLetters).2 = none) :
    s.gradeSolo.grant = s.soloGraded w e s.store (if s.grade = .close then 55 else 56)
      [s.remark .round 2 57 false, s.remark .round 2 s.sayPhrase true] false := by
  have hplain : (true && s.grade == .perfect) = false := by
    obtain h | h := hgrade <;> rw [h] <;> rfl
  rw [State.gradeSolo_grant hspeak hword he, State.resultStore_spelled s hgrade, verdictPhrase_spelled hgrade,
    State.resultBehind_unspelled hx hgrade, hplain, State.compose_none hx]

theorem boxAfter_spelled {g : Grade} (h : g = .close ∨ g = .wrong) (box : Nat) :
    boxAfter g box = if g = .close then box else 0 := by
  obtain rfl | rfl := h <;> rfl

/-! ## Done in a solo round, and at its review (R73, R78) -/

theorem exec_doneKey_solo {s : State} (hwaits : s.keyWaits 27)
    (hstate : s.round.state = .soloOpen ∨ s.round.state = .soloReview) :
    exec .doneKey s =
      .next (if s.round.state = .soloOpen then s.keyTaken.soloDone else s.keyTaken.reviewDone).grant := by
  have htakes : s.round.state.takesKeys = true := by
    obtain h | h := hstate <;> rw [h] <;> rfl
  refine (keyEvent_taken hwaits htakes rfl).trans ?_
  obtain h | h := hstate <;> simp [useDone, h]

/-- The voice that holds a mark, when voice A holds none such before voice B (R78). -/
theorem State.holder_eq {s : State} {v : VoiceId} {n : Nat} (hholds : ∃ e ∈ (s.voice v).entries, e.markNo = some n)
    (hfirst : v = .B → ∀ e ∈ s.voiceA.entries, e.markNo ≠ some n) : s.holder n = some v := by
  have hany (x : Voice) : x.entries.any (fun e => e.markNo == some n) = true ↔ ∃ e ∈ x.entries, e.markNo = some n := by
    simp
  unfold State.holder
  cases v with
  | A => exact if_pos ((hany _).2 hholds)
  | B =>
    refine (if_neg ?_).trans (if_pos ((hany _).2 hholds))
    rw [hany]
    rintro ⟨e, he, hmark⟩
    exact hfirst rfl e he hmark

/-- Settles O34: Done with no letter, graded PERFECT or spelled back, and the review stopped by its mark. -/
theorem doneGradesAndEndsReview : Obligations.DoneGradesAndEndsReview := by
  refine ⟨fun s hwaits hstate hspeak => ?_, fun s v n p hwaits hstate hsettled hmarked c hcurrent hqueue hstack hmark hfirst
    htag hstart => ?_⟩
  · have hexec := exec_doneKey_solo hwaits (.inl hstate)
    rw [if_pos hstate] at hexec
    have hspeak' : s.keyTaken.freeToSpeak := hspeak
    refine ⟨fun hnone => ?_, fun w hword e he hsome => ?_⟩
    · have hrefused : s.keyTaken.soloDone = s.keyTaken.speakOwn [65] := if_pos hnone
      rw [hexec, hrefused, hspeak'.own 65 (Nat.zero_le _)]
    · intro u graded
      rw [show s.keyTaken.soloDone = s.keyTaken.gradeSolo from if_neg hsome] at hexec
      have hword' : s.keyTaken.round.word = some w := s.keyTaken_word.trans hword
      have hgrade : s.keyTaken.grade = s.grade := by
        rw [State.grade, s.keyTaken_assists]
        rfl
      have hcompose := State.compose_congr (s := s) (t := s.keyTaken) rfl rfl s.targetLetters
      have hsay : s.keyTaken.sayPhrase = s.sayPhrase := by
        rw [State.sayPhrase, s.keyTaken_word]
        rfl
      have hremark : s.keyTaken.remark = s.remark := State.remark_congr rfl (by rw [s.keyTaken_facts])
      have hgraded (store : Store) (first : Nat) (behind : List Entry) (mark : Bool) :
          s.keyTaken.soloGraded w e store first behind mark =
            graded (boxAfter s.grade e.box) store first behind mark := by
        simp only [State.soloGraded, State.soloResult, hgrade, hremark, s.keyTaken_assists]
        rw [State.post_of_reports (s := s) (t := s.keyTaken) rfl rfl, s.keyTaken_facts,
          State.portAsked_congr (s := s) (t := s.keyTaken) rfl]
        simp only [graded, u, State.post_keeps]
        rfl
      refine ⟨fun hperfect => ?_, fun x hx hspelled => ?_⟩
      · rw [hexec, State.gradeSolo_perfect hspeak' hword' he (hgrade.trans hperfect), hgraded, hperfect]
        rfl
      · rw [hexec, State.gradeSolo_spelled hspeak' hword' he (hgrade.symm ▸ hspelled) (hcompose.2.trans hx), hgraded,
          hgrade, boxAfter_spelled hspelled, hremark, hsay]
        exact congrArg (fun store => Host.Outcome.next (graded _ store _ _ _)) hcompose.1
  · have hreview : ¬ s.round.state = .soloOpen := by
      rw [hstate]
      nofun
    have hfacts : s.keyTaken = s.setScanner { s.scanner with queue := s.scanner.queue.tail } := by
      simp only [State.keyTaken, if_neg hreview]
      rfl
    have hholds : ∃ e ∈ (s.voice v).entries, e.markNo = some n := ⟨c.entry, by simp [Voice.entries, hcurrent], hmark⟩
    have hdone : s.keyTaken.reviewDone = s.keyTaken.stopVoice false v := by
      have hmarked' : s.keyTaken.round.marked = some n := by rw [s.keyTaken_facts, hmarked]
      have hholder : s.keyTaken.holder n = some v := State.holder_eq hholds hfirst
      simp only [State.reviewDone, hmarked', Option.bind_some, hholder]
    rw [exec_doneKey_solo hwaits (.inr hstate), if_neg hreview, hdone, State.stopVoice_alone
      (s := s.keyTaken) (by cases v <;> exact hcurrent) (by cases v <;> exact hqueue) (by cases v <;> exact hstack) hstart,
      if_pos htag, hmark, hfacts]
    let t := (s.setScanner { s.scanner with queue := s.scanner.queue.tail }).setVoice v Voice.quiet
    have hround : t.round = s.round := by simp [t, State.setScanner]
    have hidle : ((t.setPort (s.withdraw (.voice v)).port).markTold (some n)) =
        (t.setPort (s.withdraw (.voice v)).port).toIdle :=
      State.markEnded_soloReview (s := t.setPort _) (by rw [← hmarked, ← hround]; rfl) (by rw [← hstate, ← hround]; rfl)
    have hwithdrawn (x : Scanner) : ((s.setScanner x).withdraw (.voice v)).port = (s.withdraw (.voice v)).port := rfl
    have hsettled' : (t.setPort (s.withdraw (.voice v)).port).toIdle.portSettled :=
      portSettled_of_port_eq (s := s.withdraw (.voice v)) rfl (State.withdraw_settled (.voice v) hsettled)
    rw [hwithdrawn, hidle, State.grant_settled hsettled', State.toIdle_eq]
    cases v <;> rfl

end Sys2Proof.Machine
end

section
/-! A circle round's end (R37, R38, R167 to R169): its grade, "round over", the timers, CLOSE frames. -/

namespace Sys2Proof.Machine

/-! ## Pending letters removed before a grade (R37, R46) -/

/-- What the removal of pending letters leaves (R37, R44). -/
theorem State.removePending_eq (s : State) :
    s.removePending = { s with
      judge := { s.judge with rows := popRows s.attempt.pending.length s.judge.rows }
      attempt := { s.attempt with pending := [] }
      round := { s.round with misses := if s.attempt.pending = [] then s.round.misses else 0 } } := by
  by_cases hpending : s.attempt.pending = []
  · have hrows : popRows s.attempt.pending.length s.judge.rows = s.judge.rows := by
      rw [hpending]
      rfl
    rw [State.removePending_of_eq hpending, if_pos hpending, hrows, ← hpending]
  · rw [State.removePending_of_ne hpending, if_neg hpending]
    rfl

/-- The landed letters' row is in the same place with more letters built on it. -/
theorem builtRows_row (table : List (Nat × Nat)) (t landed pending : List Nat) :
    (builtRows table t (landed ++ pending)).reverse[landed.length]? = (builtRows table t landed).reverse[landed.length]? := by
  induction pending using List.reverseRecOn with
  | nil => rw [List.append_nil]
  | append_singleton xs x ih =>
    rw [← List.append_assoc, builtRows_append_singleton, List.reverse_cons, List.getElem?_append_left, ih]
    rw [List.length_reverse, builtRows_length, List.length_append]
    omega

/-- The final score is that of the landed letters, whether letters are pending or not (R46). -/
theorem State.removePending_score {s : State} (h : s.attempt.pending = [] ∨ s.rowsFollowAttempt) :
    s.removePending.score = s.score := by
  obtain hnone | ⟨-, hempty, hbuilt⟩ := h
  · rw [State.removePending_of_eq hnone]
  · have hrow : ({ s.judge with rows := popRows s.attempt.pending.length s.judge.rows } : Judge).row s.attempt.landed.length =
        s.judge.row s.attempt.landed.length := by
      cases htarget : s.attempt.target with
      | none => simp only [Judge.row, hempty htarget, popRows_nil]
      | some w =>
        have hrows := hbuilt (by rw [htarget]; rfl)
        simp only [Judge.row, hrows, Attempt.letters, popRows_builtRows, builtRows_row]
    rw [State.removePending_eq]
    simp only [State.score, hrow, State.targetLetters, State.wordAt]

/-! ## The round closed (R37, R168, R170) -/

/-- A circle round left: the own LETTER and CLOSE entries, the pending letters, target and rows gone, in IDLE. -/
def State.leftCircle (s : State) : State :=
  { s with
    link := { s.link with queue := withoutRoundFrames s.link.queue }
    round := { s.round.closed with misses := if s.attempt.pending = [] then s.round.misses else 0 }
    attempt := Attempt.cleared, judge := { s.judge with rows := [] } }

/-- The state in which a circle round's last speech is made: own entries and pending letters removed (R37). -/
def State.unpended (s : State) : State :=
  { s with
    link := { s.link with queue := withoutRoundFrames s.link.queue }
    judge := { s.judge with rows := popRows s.attempt.pending.length s.judge.rows }
    attempt := { s.attempt with pending := [] }
    round := { s.round with misses := if s.attempt.pending = [] then s.round.misses else 0 } }

theorem State.unpended_eq (s : State) : s.removeRoundFrames.removePending = s.unpended := by
  rw [State.removePending_eq, State.removeRoundFrames_eq]
  rfl

/-- A round left with "round over" and no record (R38, R167, R169). -/
theorem State.roundOver_grant {s : State} (hspeak : s.freeToSpeak) :
    s.roundOver.grant = s.leftCircle.saying .round 2 64 [] := by
  have hspeak' : s.unpended.freeToSpeak := hspeak
  have hover : s.roundOver = (s.unpended.speakRound [64]).toIdle := by
    rw [State.roundOver, State.unpended_eq]
  rw [hover, hspeak'.speakRound, State.toIdle_eq]
  refine State.grant_saying (s := s) ?_ ?_ ?_ ?_ <;> rfl

/-- A player's round left with no landed letter, when its timer ends (R169). -/
theorem State.circleExpires_abandoned {s : State} (hspeak : s.freeToSpeak) (hplayer : s.round.state.player = true)
    (hnone : s.attempt.landed = []) :
    s.circleExpires.grant =
      (s.post (.result .circle (s.round.word.getD 0) .abandoned 0 0 s.round.assists)).leftCircle.saying .round 2 64 [] := by
  have hspeak' : s.unpended.freeToSpeak := hspeak
  let t := s.unpended.speakRound [64]
  have ht : t = (s.unpended.setVoiceA (s.speaking .A (s.remark .round 2 64 false) [])).ask (.voice .A) (.phraseDirectory 64) :=
    hspeak'.speakRound 64
  have hrecord : t.resultRecord .circle .abandoned 0 =
      .result .circle (s.round.word.getD 0) .abandoned 0 0 s.round.assists := by
    rw [ht, State.resultRecord]
    show Record.result _ _ _ _ s.attempt.landed.length _ = _
    rw [hnone]
    rfl
  have hexpires : s.circleExpires = (t.post (t.resultRecord .circle .abandoned 0)).toIdle := by
    rw [State.circleExpires, if_pos hplayer, if_pos hnone, State.unpended_eq]
  rw [hexpires, hrecord, State.post_of_reports (s := s) (by rw [ht]; rfl) (by rw [ht]; rfl), ht, State.toIdle_eq]
  refine State.grant_saying (s := s) rfl (by simp [State.leftCircle]) (by simp [State.leftCircle]) ?_
  simp only [State.leftCircle, State.post_keeps]
  rfl

/-! ## A circle round graded (R168) -/

/-- A circle round graded, its result speech on a free voice A (R76, R168). -/
def State.circleGraded (s : State) (store : Store) (first : Nat) (behind : List Entry) : State :=
  { (s.post (.result .circle (s.round.word.getD 0) s.grade s.score s.attempt.landed.length
      s.round.assists)).leftCircle with
    store := store
    voiceA := s.speaking .A (s.remark .round 2 first false) behind
    port := s.portAsked (.voice .A) (.phraseDirectory first) }

/-- The circle round's result speech offered, before its record and IDLE (R168). -/
def State.circleSpeaking (s : State) : State :=
  { s.unpended with
    store := s.resultStore s.grade
    voiceA := s.speaking .A (s.remark .round 2 (verdictPhrase s.grade) false) (s.resultBehind s.grade false)
    port := (s.ask (.voice .A) (.phraseDirectory (verdictPhrase s.grade))).port }

theorem State.gradeCircle_offers {s : State} (hspeak : s.freeToSpeak) (hgrade : s.unpended.grade = s.grade)
    (hscore : s.unpended.score = s.score) :
    s.removeRoundFrames.gradeCircle = (s.circleSpeaking.post (.result .circle (s.round.word.getD 0) s.grade s.score
      s.attempt.landed.length s.round.assists)).toIdle := by
  let u := s.unpended.setStore (s.resultStore s.grade)
  have hu : u.freeToSpeak := hspeak
  let first := s.remark .round 2 (verdictPhrase s.grade) false
  let behind := s.resultBehind s.grade false
  have hoffers : u.offerGroup (first :: behind) = s.circleSpeaking := by
    show u.offerAll (u.assign .round) _ = _
    rw [State.assign_split hu.1 (source := .round) nofun]
    exact State.offerAll_free behind hu.2.1 rfl (State.resultBehind_length _ _ _)
  have hspeech := State.resultSpeech_congr (s := s) (t := s.unpended) ⟨rfl, rfl, rfl, rfl, rfl, rfl⟩ s.grade false
  rw [State.gradeCircle, State.unpended_eq, hgrade, hscore, hspeech]
  exact congrArg (fun t : State => (t.post (t.resultRecord .circle s.grade s.score)).toIdle) hoffers

theorem State.gradeCircle_grant {s : State} (hspeak : s.freeToSpeak)
    (hrows : s.attempt.pending = [] ∨ s.rowsFollowAttempt) :
    s.removeRoundFrames.gradeCircle.grant =
      s.circleGraded (s.resultStore s.grade) (verdictPhrase s.grade) (s.resultBehind s.grade false) := by
  have hscore : s.unpended.score = s.score := by
    rw [← State.removePending_score hrows, State.removePending_eq]
    rfl
  have hgrade : s.unpended.grade = s.grade := by
    rw [State.grade, hscore]
    rfl
  rw [State.gradeCircle_offers hspeak hgrade hscore]
  refine (State.grant_asked (s := s) (r := .voice .A) (k := .phraseDirectory (verdictPhrase s.grade)) ?_).trans ?_
  · simp only [State.toIdle_eq, State.post_keeps, State.circleSpeaking]
  · rw [State.post_of_reports (s := s) (t := s.circleSpeaking) rfl rfl, State.toIdle_eq]
    simp only [State.circleGraded, State.circleSpeaking, State.leftCircle, State.unpended, State.post_keeps, State.setPort,
      Round.closed]

theorem State.gradeCircle_perfect {s : State} (hspeak : s.freeToSpeak)
    (hrows : s.attempt.pending = [] ∨ s.rowsFollowAttempt) (hgrade : s.grade = .perfect) :
    s.removeRoundFrames.gradeCircle.grant = s.circleGraded s.store 54 [] := by
  rw [State.gradeCircle_grant hspeak hrows, hgrade]
  rfl

theorem State.gradeCircle_spelled {s : State} {x : Spelling} (hspeak : s.freeToSpeak)
    (hrows : s.attempt.pending = [] ∨ s.rowsFollowAttempt) (hgrade : s.grade = .close ∨ s.grade = .wrong)
    (hx : (s.compose s.targetLetters).2 = some x) :
    s.removeRoundFrames.gradeCircle.grant =
      s.circleGraded (s.compose s.targetLetters).1.store (if s.grade = .close then 55 else 56)
        [s.remark .round 2 57 false,
         { source := .round, priority := 2, start := .slot x.head, pitch := s.setup.ownPitch, tag := 0, markNo := none },
         s.remark .round 2 s.sayPhrase false] := by
  rw [State.gradeCircle_grant hspeak hrows, State.resultStore_spelled s hgrade, verdictPhrase_spelled hgrade,
    State.resultBehind_spelled hx hgrade]

theorem State.gradeCircle_unspelled {s : State} (hspeak : s.freeToSpeak)
    (hrows : s.attempt.pending = [] ∨ s.rowsFollowAttempt) (hgrade : s.grade = .close ∨ s.grade = .wrong)
    (hx : (s.compose s.targetLetters).2 = none) :
    s.removeRoundFrames.gradeCircle.grant =
      s.circleGraded s.store (if s.grade = .close then 55 else 56)
        [s.remark .round 2 57 false, s.remark .round 2 s.sayPhrase false] := by
  rw [State.gradeCircle_grant hspeak hrows, State.resultStore_spelled s hgrade, verdictPhrase_spelled hgrade,
    State.resultBehind_unspelled hx hgrade, State.compose_none hx]

/-- A circle round graded and left, with a speech of phrases. -/
theorem State.circleGraded_saying (s : State) (first : Nat) (more : List Nat) :
    s.circleGraded s.store first (more.map (fun p => s.remark .round 2 p false)) =
      (s.post (.result .circle (s.round.word.getD 0) s.grade s.score s.attempt.landed.length
        s.round.assists)).leftCircle.saying .round 2 first more := by
  rw [State.saying_congr (s := s) (by simp [State.leftCircle]) (by simp [State.leftCircle])]
  simp only [State.circleGraded, State.leftCircle, State.post_keeps]

/-! ## The timers (R74, R169) -/

theorem exec_roundTimerExpiry {s : State} (hstate : s.round.state = .soloOpen) (htimer : s.round.soloTimer ≠ .stopped) :
    exec .roundTimerExpiry s = .next s.soloExpires.grant := by
  cases ht : s.round.soloTimer with
  | stopped => exact absurd ht htimer
  | running n => simp only [exec, execRoundTimerExpiry, hstate, ht]

theorem exec_circleTimerExpiry {s : State} (hopen : s.round.state.circleOpen = true)
    (htimer : s.round.circleTimer ≠ .stopped) : exec .circleTimerExpiry s = .next s.circleExpires.grant := by
  cases ht : s.round.circleTimer with
  | stopped => exact absurd ht htimer
  | running n => simp only [exec, execCircleTimerExpiry, hopen, ht]

theorem player_iff (x : RoundState) : x.player = true ↔ x = .circleOpening ∨ x = .circlePlayer := by
  cases x <;> simp [RoundState.player]

theorem circleOpen_of_player {x : RoundState} (h : x.player = true) : x.circleOpen = true := by
  obtain rfl | rfl := (player_iff x).mp h <;> rfl

/-- Settles O36: the solo timer outside its state, without letters and with them; the circle timer by the station's part. -/
theorem roundTimersExpire : Obligations.RoundTimersExpire := by
  refine ⟨fun s hsettled => ⟨fun hstate => ?_, fun hstate htimer hnone => ?_,
    fun w hword e he hstate htimer hsome hspeak => ?_⟩, fun s hspeak htimer => ?_⟩
  · simp only [exec, execRoundTimerExpiry]
    split
    · contradiction
    · rfl
  · rw [exec_roundTimerExpiry hstate htimer, State.soloExpires, if_pos hnone, State.grant_settled
      (portSettled_of_port_eq (by simp) hsettled), State.toIdle_eq]
    simp [State.resultRecord, hnone]
  · intro graded box first
    have hexec : exec .roundTimerExpiry s = .next s.gradeSolo.grant := by
      rw [exec_roundTimerExpiry hstate htimer, State.soloExpires, if_neg hsome]
    have hgraded (store : Store) (first : Nat) (behind : List Entry) (mark : Bool) :
        s.soloGraded w e store first behind mark = graded (boxAfter s.grade e.box) store first behind mark := rfl
    refine ⟨fun hperfect => ?_, fun hspelled hx => ?_, fun x hx hspelled => ?_⟩
    · rw [hexec, State.gradeSolo_perfect hspeak hword he hperfect, hgraded, hperfect]
      rfl
    · rw [hexec, State.gradeSolo_unspelled hspeak hword he hspelled hx, hgraded, boxAfter_spelled hspelled]
    · rw [hexec, State.gradeSolo_spelled hspeak hword he hspelled hx, hgraded, boxAfter_spelled hspelled]
  · intro closed
    have hclosed (r : Record) : closed (s.post r) = (s.post r).leftCircle := by
      simp only [closed, State.leftCircle, State.post_keeps]
    have hexec (hplayer : s.round.state = .circleOpening ∨ s.round.state = .circlePlayer) :=
      exec_circleTimerExpiry (circleOpen_of_player ((player_iff _).mpr hplayer)) htimer
    have hgrades (hplayer : s.round.state = .circleOpening ∨ s.round.state = .circlePlayer)
        (hsome : s.attempt.landed ≠ []) : s.circleExpires = s.removeRoundFrames.gradeCircle := by
      rw [State.circleExpires, if_pos ((player_iff _).mpr hplayer), if_neg hsome]
    refine ⟨fun hout => ?_, fun hwatching hpending => ?_, fun hplayer hnone => ?_,
      fun hplayer hsome hpending hperfect => ?_, fun x hx hplayer hsome hpending hspelled => ?_⟩
    · simp only [exec, execCircleTimerExpiry, hout]
    · have hopen : s.round.state.circleOpen = true := by obtain h | h := hwatching <;> rw [h] <;> rfl
      have hplayer : ¬ s.round.state.player = true := by obtain h | h := hwatching <;> rw [h] <;> nofun
      rw [exec_circleTimerExpiry hopen htimer, State.circleExpires, if_neg hplayer, State.roundOver_grant hspeak]
      rfl
    · rw [hexec hplayer, State.circleExpires_abandoned hspeak ((player_iff _).mpr hplayer) hnone, hclosed]
    · rw [hexec hplayer, hgrades hplayer hsome, State.gradeCircle_perfect hspeak (.inl hpending) hperfect, hclosed,
        ← hperfect]
      exact congrArg Host.Outcome.next (s.circleGraded_saying 54 [])
    · rw [hexec hplayer, hgrades hplayer hsome, State.gradeCircle_spelled hspeak (.inl hpending) hspelled hx, hclosed]
      rfl

/-! ## CLOSE frames (R167) -/

theorem exec_closeFrame {s : State} (h : s.hearing = true) (precedence : Byte) (l : BitVec 3) (tag count check : Byte) :
    exec (.closeFrame precedence l tag count check) s =
      .next ((s.heardPart (closeOf precedence l tag count check) l).takeClose tag.toNat count.toNat check.toNat).grant := by
  simp only [exec, execCloseFrame, frameEvent_hearing h]
  rfl

end Sys2Proof.Machine
end

section
/-! CLOSE frames (R37, R76, R167, R168): what is ignored, "round over", a player's grade. -/

namespace Sys2Proof.Machine

/-- A CLOSE outside the round, of another tag or of another count is ignored (R167). -/
theorem State.takeClose_ignored {s : State} {tag count : Nat}
    (h : s.round.state.circleOpen = false ∨ s.round.tag ≠ some tag ∨ count = 0 ∨ 20 < count ∨
      (s.round.state ≠ .circleLost ∧ count ≠ s.attempt.landed.length)) (check : Nat) : s.takeClose tag count check = s := by
  unfold State.takeClose
  split
  · rfl
  · rename_i hin
    simp only [not_or, not_not] at hin
    obtain ⟨hopen, htag, hlow, hhigh⟩ := hin
    obtain h | h | h | h | ⟨hlost, hcount⟩ := h
    · exact absurd h hopen
    · exact absurd htag h
    · omega
    · omega
    · rw [if_neg hlost, if_pos hcount]

/-- A CLOSE that ends the round without a grade (R167). -/
theorem State.takeClose_over {s : State} {tag count check : Nat} (hopen : s.round.state.circleOpen = true)
    (htag : s.round.tag = some tag) (hlow : 1 ≤ count) (hhigh : count ≤ 20)
    (h : s.round.state = .circleLost ∨ (count = s.attempt.landed.length ∧
      (s.round.state.player = false ∨ check ≠ prefixCheck s.attempt.landed))) :
    s.takeClose tag count check = s.roundOver := by
  unfold State.takeClose
  rw [if_neg (by simp only [hopen, htag]; simp; omega)]
  by_cases hlost : s.round.state = .circleLost
  · rw [if_pos hlost]
  · obtain ⟨hcount, hgrade⟩ := h.resolve_left hlost
    rw [if_neg hlost, if_neg (not_not.mpr hcount), if_neg]
    rintro ⟨hplayer, hcheck⟩
    obtain h | h := hgrade
    · exact Bool.noConfusion (h.symm.trans hplayer)
    · exact h hcheck

/-- A CLOSE that grades a player (R168). -/
theorem State.takeClose_grades {s : State} {tag count check : Nat} (hplayer : s.round.state.player = true)
    (htag : s.round.tag = some tag) (hlow : 1 ≤ count) (hhigh : count ≤ 20) (hcount : count = s.attempt.landed.length)
    (hcheck : check = prefixCheck s.attempt.landed) : s.takeClose tag count check = s.removeRoundFrames.gradeCircle := by
  have hlost : ¬ s.round.state = .circleLost := by
    intro h
    rw [h] at hplayer
    exact nomatch hplayer
  unfold State.takeClose
  rw [if_neg (by simp only [circleOpen_of_player hplayer, htag]; simp; omega), if_neg hlost,
    if_neg (not_not.mpr hcount), if_pos ⟨hplayer, hcheck⟩]

/-- Settles O51: a CLOSE ignored, one that ends the round, one that grades it. -/
theorem closeEndsCircleRound : Obligations.CloseEndsCircleRound := by
  intro s l precedence tag count check hhearing u n player closed
  obtain ⟨-, -, -, -, hwords, -, -, -, -, hsetup, -, hattempt, hjudge, hround, hstore, hvoiceA, -, -, hport, -⟩ :
    KeepsHearing s u := State.heardPart_keeps s _ l
  have hexec := exec_closeFrame hhearing precedence l tag count check
  have hclosed (r : Record) : closed (u.post r) = (u.post r).leftCircle := by
    simp only [closed, State.leftCircle, State.post_keeps, hround, hattempt, hjudge]
  have hletters : u.targetLetters = s.targetLetters := by
    simp only [State.targetLetters, State.wordAt, hattempt, hwords]
  have hscore : u.score = s.score := by simp only [State.score, hletters, hattempt, hjudge]
  have hgrade : u.grade = s.grade := by simp only [State.grade, hscore, hattempt, hround, hsetup]
  refine ⟨fun hsettled hignored => ?_, fun hspeak htag hlow hhigh => ⟨fun hover => ?_, fun hplayer hcount hcheck hrows => ?_⟩⟩
  · rw [hexec]
    refine congrArg Host.Outcome.next ?_
    show (u.takeClose _ _ _).grant = u
    rw [State.takeClose_ignored (by rw [hround, hattempt]; exact hignored)]
    exact State.heardPart_grant hsettled _ l
  · have hspeak' : u.freeToSpeak := State.heardPart_freeToSpeak hspeak _ l
    have hends : u.takeClose tag.toNat count.toNat check.toNat = u.roundOver := by
      have hopen : s.round.state.circleOpen = true := by
        obtain h | ⟨h, -⟩ | ⟨h | h, -, -⟩ := hover <;> rw [h] <;> rfl
      refine State.takeClose_over (by rw [hround, hopen]) (by rw [hround, htag]) hlow hhigh ?_
      rw [hround, hattempt]
      obtain hlost | ⟨hspectator, hcount⟩ | ⟨-, hcount, hcheck⟩ := hover
      · exact .inl hlost
      · exact .inr ⟨hcount, .inl (by rw [hspectator]; rfl)⟩
      · exact .inr ⟨hcount, .inr hcheck⟩
    rw [hexec]
    refine congrArg Host.Outcome.next ?_
    show (u.takeClose _ _ _).grant = _
    rw [hends, State.roundOver_grant hspeak']
    simp only [closed, State.leftCircle, hround, hattempt, hjudge]
  · have hspeak' : u.freeToSpeak := State.heardPart_freeToSpeak hspeak _ l
    intro first graded
    have hends : u.takeClose tag.toNat count.toNat check.toNat = u.removeRoundFrames.gradeCircle :=
      State.takeClose_grades (by rw [hround]; exact (player_iff _).mpr hplayer) (by rw [hround, htag]) hlow hhigh
        (by rw [hattempt]; exact hcount) (by rw [hattempt]; exact hcheck)
    have hexec' : exec (.closeFrame precedence l tag count check) s = .next u.removeRoundFrames.gradeCircle.grant := by
      rw [hexec, ← hends]
    have hrows' : u.attempt.pending = [] ∨ u.rowsFollowAttempt := by
      simp only [State.rowsFollowAttempt, hletters]
      rw [hattempt, hround, hjudge]
      exact hrows
    have hcompose := State.compose_congr hstore hsetup s.targetLetters
    have hremark : u.remark = s.remark := State.remark_congr hsetup (by rw [hround])
    have hsay : u.sayPhrase = s.sayPhrase := by
      have hat : u.wordAt = s.wordAt := by
        funext w
        simp only [State.wordAt, hwords]
      simp only [State.sayPhrase, hround, hat]
    have hrecord : Record.result .circle (u.round.word.getD 0) u.grade u.score u.attempt.landed.length u.round.assists =
        .result .circle (s.round.word.getD 0) s.grade s.score n s.round.assists := by
      rw [hround, hgrade, hscore, hattempt]
    have hsaying (first : Nat) (more : List Nat) :
        u.circleGraded u.store first (more.map (fun p => u.remark .round 2 p false)) =
          graded.saying .round 2 first more := by
      rw [State.circleGraded_saying, hrecord, ← hclosed]
    refine ⟨fun hperfect => ?_, fun x hx hspelled => ?_, fun hx hspelled => ?_⟩
    · rw [hexec', State.gradeCircle_perfect hspeak' hrows' (hgrade.trans hperfect)]
      exact congrArg Host.Outcome.next (hsaying 54 [])
    · rw [hexec', State.gradeCircle_spelled hspeak' hrows' (by rw [hgrade]; exact hspelled)
        (by rw [hletters, hcompose.2, hx]), State.circleGraded, hrecord, ← hclosed]
      simp only [hgrade, hletters, hcompose.1, hremark, hsay, hsetup,
        State.speaking_congr hsetup, State.portAsked_congr hport]
      rfl
    · rw [hexec', State.gradeCircle_unspelled hspeak' hrows' (by rw [hgrade]; exact hspelled)
        (by rw [hletters, hcompose.2, hx]), hgrade, hsay]
      exact congrArg Host.Outcome.next (hsaying _ [57, s.sayPhrase])

end Sys2Proof.Machine
end

section
/-! A peer's letter that lands (R36, R39, R40, R44, R151, R159, R164, R165): at a player, at a spectator. -/

namespace Sys2Proof.Machine

/-! ## Two requests in one event (R98) -/

theorem State.hasTransfer_ask {s : State} {r q : Requester} (hne : q ≠ r) (hfree : s.hasTransfer r = false)
    (kind : TransferKind) : (s.ask q kind).hasTransfer r = false := by
  rw [State.hasTransfer_eq_false] at hfree ⊢
  intro t ht
  obtain ht | ht := List.mem_append.mp ht
  · exact hfree t (List.mem_append_left _ ht)
  · obtain rfl | ht := (mem_insertTransfer _ t _).mp ht
    · exact hne
    · exact hfree t (List.mem_append_right _ ht)

/-- At a settled port it makes no difference whether voice A's phrase is granted before voice B asks for its own or after
(R98). -/
theorem State.portAsked_after {s : State} (hsettled : s.portSettled) (p q : Nat) :
    (s.ask (.voice .A) (.phraseDirectory p)).portAsked (.voice .B) (.phraseDirectory q) =
      (s.setPort (s.portAsked (.voice .A) (.phraseDirectory p))).portAsked (.voice .B) (.phraseDirectory q) := by
  cases hflight : s.port.inFlight with
  | some t => simp [State.portAsked, State.ask, State.grant, hflight, State.setPort]
  | none =>
    have hwaiting := hsettled hflight
    simp [State.portAsked, State.ask, State.grant, hflight, hwaiting, State.setPort, insertTransfer, Transfer.order]

/-! ## The peer's echo and its tally (R40, R151) -/

/-- An entry's update at its place in the Roster. -/
theorem State.updatePeer_modify (s : State) (n : Nat) (f : RosterEntry → RosterEntry) :
    s.updatePeer n f = s.setRoster (s.roster.modify n (Option.map f)) := by
  cases hentry : rosterAt s.roster n with
  | some e =>
    rw [State.updatePeer_some hentry]
    have hmodify : s.roster.modify n (Option.map f) = s.roster.set n (some (f e)) := by
      have hat : s.roster[n]? = some (some e) := Option.join_eq_some_iff.mp hentry
      rw [List.modify_eq_set_getElem?, hat]
      rfl
    rw [hmodify]
  | none =>
    have hmodify : s.roster.modify n (Option.map f) = s.roster := by
      refine List.ext_getElem? fun i => ?_
      rw [List.getElem?_modify]
      by_cases hi : n = i
      · obtain hat | hat : s.roster[i]? = none ∨ s.roster[i]? = some none := by
          rw [← hi]
          exact Option.join_eq_none_iff.mp hentry
        all_goals simp [hi, hat]
      · simp [hi]
    rw [hmodify]
    simp only [State.updatePeer, hentry]
    rfl

/-- The Roster after a letter of laptop l has landed: its tallies, unless it is the own number (R151, R164). -/
def State.talliedRoster (s : State) (l : BitVec 3) (on : Bool) : List (Option RosterEntry) :=
  if l = s.laptop then s.roster
  else s.roster.modify l.toNat (Option.map (fun e => { e with
    placed := min 255 (e.placed + 1), onLetters := if on then min 255 (e.onLetters + 1) else e.onLetters }))

theorem State.tallied_eq (s : State) (l : BitVec 3) (on : Bool) :
    (if l.toNat = s.laptop.toNat then s else s.tallyLetter l.toNat on) = s.setRoster (s.talliedRoster l on) := by
  by_cases hself : l = s.laptop
  · rw [if_pos (congrArg BitVec.toNat hself), State.talliedRoster, if_pos hself]
    rfl
  · rw [if_neg (toNat_ne hself), State.talliedRoster, if_neg hself]
    exact s.updatePeer_modify _ _

theorem State.grant_setRoster (s : State) (x : List (Option RosterEntry)) :
    (s.setRoster x).grant = s.grant.setRoster x := by
  rw [State.grant_of_port_eq (s := s) (t := s.setRoster x) rfl]
  unfold State.grant
  split <;> rfl

/-- The echo of a peer's letter on a free voice B, and its tally, when the part's own speech of the event has its place at
the port (R40, R98, R106, R151). -/
theorem State.peerEcho_grant {s : State} (hmode : s.setup.voiceMode = .split) (hfree : s.voiceFree .B) (l : BitVec 3)
    (p : Nat) (on : Bool) {port : Port} (hport : s.portAsked (.voice .B) (.phraseDirectory p) =
      (s.setPort port).portAsked (.voice .B) (.phraseDirectory p)) :
    (let t := s.speakPeer l.toNat p
     (if l.toNat = t.laptop.toNat then t else t.tallyLetter l.toNat on).grant) =
      ({ s with roster := s.talliedRoster l on, port := port } : State).echoing l.toNat p := by
  have hspeaks : s.speakPeer l.toNat p =
      (s.setVoiceB (s.speaking .B { s.remark .peer 1 p false with pitch := l.toNat } [])).ask (.voice .B) (.phraseDirectory p) := by
    show s.offerAll (s.assign .peer) _ = _
    rw [State.assign_peer hmode]
    exact State.offerAll_free [] hfree rfl (Nat.zero_le _)
  have hsame (x : Voice) : (s.setVoiceB x).portAsked = s.portAsked := State.portAsked_congr rfl
  dsimp only
  rw [State.tallied_eq, hspeaks, State.grant_setRoster, State.grant_ask, hsame, hport, State.echoing,
    State.portAsked_congr (s := s.setPort port) (t := { s with roster := s.talliedRoster l on, port := port }) rfl]
  rfl

/-! ## The letter lands at a player (R36, R164) -/

/-- A peer's letter landed at a player, before anything is said: own entries and pending letters gone, the letter judged
(R36, R44). -/
def State.peerLanded (s : State) (x : Nat) : State :=
  let base := popRows s.attempt.pending.length s.judge.rows
  { s with
    link := { s.link with queue := withoutRoundFrames s.link.queue }
    judge := { s.judge with rows := pushedRow s.judge.pairs s.targetLetters base x :: base }
    attempt := { s.attempt with landed := s.attempt.landed ++ [x], pending := [] }
    round := { s.round with misses := 0, circleTimer := .running 45 } }

/-- What a player says of its own lost frames (R164). -/
def State.lateSaid (s : State) (late more : Bool) : State :=
  let s := if late then s.speakRound [58] else s
  if more then s.speakRound [67] else s

theorem State.landPeer_eq (s : State) (laptop x : Nat) :
    s.landPeer laptop x =
      let t := ((s.peerLanded x).lateSaid (s.hasEntry .letter) (s.hasEntry .close)).speakPeer laptop
        (letterPhrase s.setup.letterVoice x)
      if laptop = t.laptop.toNat then t
      else t.tallyLetter laptop ((pushedRow s.judge.pairs s.targetLetters
        (popRows s.attempt.pending.length s.judge.rows) x).verdict s.setup.closeLimit == .on) := by
  have hletters : s.unpended.targetLetters = s.targetLetters := by
    simp only [State.targetLetters, State.wordAt, State.unpended]
  have hrow : s.unpended.nextRow x = pushedRow s.judge.pairs s.targetLetters
      (popRows s.attempt.pending.length s.judge.rows) x := by
    rw [State.nextRow, hletters, State.unpended]
  have hlanded : (((s.unpended.pushLetter x).setAttempt
      { (s.unpended.pushLetter x).attempt with landed := (s.unpended.pushLetter x).attempt.landed ++ [x] }).setMisses
        0).restartCircle = s.peerLanded x := by
    rw [State.pushLetter, hrow]
    rfl
  have hverdict : s.unpended.verdictOf x = (pushedRow s.judge.pairs s.targetLetters
        (popRows s.attempt.pending.length s.judge.rows) x).verdict s.setup.closeLimit := by
    rw [State.verdictOf, hrow, State.unpended]
  have hvoice : ((s.peerLanded x).lateSaid (s.hasEntry .letter) (s.hasEntry .close)).setup.letterVoice =
      s.setup.letterVoice := by
    unfold State.lateSaid
    split <;> split <;> simp [State.peerLanded]
  simp only [State.landPeer, State.unpended_eq, hlanded, hverdict, ← hvoice]
  rfl

/-- With no own frame lost nothing is said before the echo. -/
theorem State.lateSaid_none (s : State) : s.lateSaid false false = s := rfl

/-- The state in which a group on voice A has started, its request not yet granted. -/
def State.sayingAsked (s : State) (first : Nat) (more : List Nat) : State :=
  { s with
    voiceA := s.speaking .A (s.remark .round 2 first false) (more.map (fun p => s.remark .round 2 p false))
    port := (s.ask (.voice .A) (.phraseDirectory first)).port }

theorem State.lateSaid_some {s : State} (hmode : s.setup.voiceMode = .split) (hfree : s.voiceFree .A) (late more : Bool)
    (h : late = true ∨ more = true) :
    s.lateSaid late more = s.sayingAsked (if late then 58 else 67) (if late && more then [67] else []) := by
  have hsays (p : Nat) : s.speakRound [p] = s.sayingAsked p [] :=
    State.offerGroup_split hmode hfree (source := .round) nofun 2 p (Nat.zero_le _)
  cases late <;> cases more
  · simp at h
  · exact hsays 67
  · exact hsays 58
  · show State.speakRound (s.speakRound [58]) [67] = _
    rw [hsays]
    show (s.sayingAsked 58 []).offerAll ((s.sayingAsked 58 []).assign .round) _ = _
    rw [State.assign_split (s := s.sayingAsked 58 []) hmode (source := .round) nofun,
      State.offerAll_joins (s := s.sayingAsked 58 []) (v := .A) ((s.sayingAsked 58 []).phrases .round 2 [67])
        (Option.some_ne_none _) (show 0 + 1 ≤ 6 by decide)]
    rfl

/-- A peer's letter lands at a player that lost no frame (R36, R40, R151, R164). -/
theorem State.landPeer_grant {s : State} (hmode : s.setup.voiceMode = .split) (hfree : s.voiceFree .B)
    (hletter : s.hasEntry .letter = false) (hclose : s.hasEntry .close = false) (l : BitVec 3) (x : Nat) :
    (s.landPeer l.toNat x).grant =
      ({ s.peerLanded x with
        roster := s.talliedRoster l ((pushedRow s.judge.pairs s.targetLetters
          (popRows s.attempt.pending.length s.judge.rows) x).verdict s.setup.closeLimit == .on) } : State).echoing l.toNat
          (letterPhrase s.setup.letterVoice x) := by
  rw [State.landPeer_eq, hletter, hclose, State.lateSaid_none]
  exact State.peerEcho_grant (s := s.peerLanded x) hmode hfree l _ _ rfl

/-- A peer's letter lands at a player that lost own frames: what it says of them comes first (R36, R164, log 16). -/
theorem State.landPeer_late {s : State} (hmode : s.setup.voiceMode = .split) (hsettled : s.portSettled)
    (hfree : s.voiceFree .B) (hfreeA : s.voiceFree .A) {late more : Bool} (hletter : s.hasEntry .letter = late)
    (hclose : s.hasEntry .close = more) (hlost : late = true ∨ more = true) (l : BitVec 3) (x : Nat) :
    (s.landPeer l.toNat x).grant =
      (({ s.peerLanded x with
        roster := s.talliedRoster l ((pushedRow s.judge.pairs s.targetLetters
          (popRows s.attempt.pending.length s.judge.rows) x).verdict s.setup.closeLimit == .on) } : State).saying .round 2
            (if late then 58 else 67) (if late && more then [67] else [])).echoing l.toNat
          (letterPhrase s.setup.letterVoice x) := by
  let first := if late then 58 else 67
  let t := (s.peerLanded x).sayingAsked first (if late && more then [67] else [])
  have hfree' : t.voiceFree .B := by
    obtain ⟨hcurrent, hqueue, hstack, htransfer⟩ := hfree
    exact ⟨hcurrent, hqueue, hstack, State.hasTransfer_ask (by decide) htransfer _⟩
  have hport := State.portAsked_after hsettled first (letterPhrase s.setup.letterVoice x)
  rw [State.landPeer_eq, hletter, hclose, State.lateSaid_some (s := s.peerLanded x) hmode hfreeA _ _ hlost]
  refine (State.peerEcho_grant (s := t) (port := s.portAsked (.voice .A) (.phraseDirectory first)) hmode hfree' l _ _
    ?_).trans ?_
  · rw [State.portAsked_congr (s := s.ask (.voice .A) (.phraseDirectory first)) (t := t) rfl, hport]
    exact congrFun (congrFun (State.portAsked_congr (s := t.setPort _) (t := s.setPort _) rfl) _) _
  · let u : State := { s.peerLanded x with
      roster := s.talliedRoster l ((pushedRow s.judge.pairs s.targetLetters
        (popRows s.attempt.pending.length s.judge.rows) x).verdict s.setup.closeLimit == .on) }
    exact congrArg (fun w : State => w.echoing l.toNat (letterPhrase s.setup.letterVoice x))
      (State.saying_congr (s := s) (t := u) rfl rfl .round 2 first (if late && more then [67] else [])).symm

/-- A peer's letter lands at a spectator, unjudged (R39, R165). -/
theorem State.landSpectator_grant {s : State} (hmode : s.setup.voiceMode = .split) (hfree : s.voiceFree .B)
    (l : BitVec 3) (x : Nat) :
    (s.landSpectator l.toNat x).grant =
      ({ s with
        attempt := { s.attempt with landed := s.attempt.landed ++ [x] }
        round := { s.round with misses := 0, circleTimer := .running 45 }
        roster := s.talliedRoster l false } : State).echoing l.toNat (letterPhrase s.setup.letterVoice x) := by
  let u : State := { s with
    attempt := { s.attempt with landed := s.attempt.landed ++ [x] }
    round := { s.round with misses := 0, circleTimer := .running 45 } }
  exact State.peerEcho_grant (s := u) hmode hfree l _ false rfl

/-- A peer's letter at the next place with the right check, at a player or a spectator (R162, R164, R165). -/
theorem State.takeLetter_peer {s : State} {own : Bool} {tag position letter check : Nat}
    (hstate : s.round.state.player = true ∨ s.round.state = .circleSpectator) (htag : s.round.tag = some tag)
    (hlow : 1 ≤ letter) (hhigh : letter ≤ 26) (hposition : position = s.attempt.landed.length + 1) (hlimit : position ≤ 20)
    (hown : own = false ∨ s.attempt.pending = []) (hcheck : check = prefixCheck (s.attempt.landed ++ [letter]))
    (laptop : Nat) :
    s.takeLetter own laptop tag position letter check =
      if s.round.state.player then s.landPeer laptop letter else s.landSpectator laptop letter := by
  have hopen : s.round.state.circleOpen = true ∧ s.round.state ≠ .circleLost := by
    obtain h | h := hstate
    · exact ⟨circleOpen_of_player h, fun hlost => by simp [hlost, RoundState.player] at h⟩
    · exact ⟨by rw [h]; rfl, by rw [h]; nofun⟩
  rw [State.takeLetter_fits hopen.1 hopen.2 htag hlimit hlow hhigh (by omega), if_pos hposition, if_neg, if_pos (show check = s.expectedCheck letter from hcheck)]
  rintro ⟨hmine, hsome⟩
  obtain h | h := hown
  · exact Bool.noConfusion (h.symm.trans hmine)
  · exact hsome h

/-- Settles O49: the letter lands at a player, with what it lost said first, and at a spectator. -/
theorem peerLettersLand : Obligations.PeerLettersLand := by
  refine ⟨fun s t htag l precedence tag position letter check hhearing hsettled hmode hfree hplayer htagged hlow hhigh hposition
    hlimit hown hcheck => ?_, fun s t htag l precedence tag position letter check hhearing hsettled hmode hfree hstate htagged
    hpending hlow hhigh hposition hlimit hcheck => ?_⟩
  · intro u base row landed phrase
    obtain ⟨-, hlaptop, -, -, hwords, -, -, -, -, hsetup, -, hattempt, hjudge, hround, -, hvoiceA, hvoiceB, -, hport, -⟩ :
      KeepsHearing s u := State.heardPart_keeps s _ l
    have hlands : exec (.letterFrame precedence l tag position letter check) s =
        .next (u.landPeer l.toNat letter.toNat).grant := by
      have hplayer' : u.round.state.player = true := by rw [hround]; exact (player_iff _).mpr hplayer
      rw [exec_letterFrame hhearing]
      refine congrArg (fun w : State => Host.Outcome.next w.grant) ?_
      show u.takeLetter _ _ _ _ _ _ = _
      rw [State.takeLetter_peer (.inl hplayer') (by rw [hround, htag, htagged]) hlow hhigh (by rw [hattempt, hposition])
        hlimit (by rw [hattempt]; exact hown) (by rw [hattempt, hcheck]), if_pos hplayer']
    have hletters : u.targetLetters = s.targetLetters := by
      simp only [State.targetLetters, State.wordAt, hattempt, hwords]
    have hrow : pushedRow u.judge.pairs u.targetLetters (popRows u.attempt.pending.length u.judge.rows) letter.toNat = row := by
      rw [hjudge, hletters, hattempt]
    have hphrase : letterPhrase u.setup.letterVoice letter.toNat = phrase := by rw [hsetup, letterPhrase_eq]
    have hon : ((row.verdict u.setup.closeLimit == .on) = true) ↔ row.frontier = 0 := by
      simp [row.verdict_on_iff]
    have hlanded : ({ u.peerLanded letter.toNat with
        roster := u.talliedRoster l (row.verdict u.setup.closeLimit == .on) } : State) = landed := by
      simp only [State.peerLanded, hrow]
      simp only [State.talliedRoster, hon, landed, hjudge, hattempt, hround, hlaptop, base]
    have hmode' : u.setup.voiceMode = .split := by rw [hsetup, hmode]
    have hfree' : u.voiceFree .B := (State.voiceFree_congr (v := .B) hvoiceB hport).mpr hfree
    have hlate (hfreeA : s.voiceFree .A) (late more : Bool) (hletter : u.hasEntry .letter = late)
        (hclose : u.hasEntry .close = more) (hlost : late = true ∨ more = true) :
        exec (.letterFrame precedence l tag position letter check) s = .next ((landed.saying .round 2
          (if late then 58 else 67) (if late && more then [67] else [])).echoing l.toNat phrase) := by
      rw [hlands, State.landPeer_late hmode' (portSettled_of_port_eq hport hsettled) hfree'
        ((State.voiceFree_congr (v := .A) hvoiceA hport).mpr hfreeA) hletter hclose hlost, hrow, hphrase, hlanded]
    refine ⟨fun hletter hclose => ?_, fun hletter hclose hfreeA => hlate hfreeA true false hletter hclose (.inl rfl),
      fun hletter hclose hfreeA => hlate hfreeA false true hletter hclose (.inr rfl),
      fun hletter hclose hfreeA => hlate hfreeA true true hletter hclose (.inl rfl)⟩
    rw [hlands, State.landPeer_grant hmode' hfree' hletter hclose, hrow, hphrase, hlanded]
  · intro u
    obtain ⟨-, hlaptop, -, -, -, -, -, -, -, hsetup, -, hattempt, -, hround, -, -, hvoiceB, -, hport, -⟩ :
      KeepsHearing s u := State.heardPart_keeps s _ l
    have hstate' : u.round.state = .circleSpectator := by rw [hround, hstate]
    rw [exec_letterFrame hhearing]
    refine congrArg Host.Outcome.next ?_
    show (u.takeLetter _ _ _ _ _ _).grant = _
    rw [State.takeLetter_peer (.inr hstate') (by rw [hround, htag, htagged]) hlow hhigh (by rw [hattempt, hposition])
      hlimit (.inr (by rw [hattempt, hpending])) (by rw [hattempt, hcheck]), hstate']
    refine (State.landSpectator_grant (by rw [hsetup, hmode]) ((State.voiceFree_congr (v := .B) hvoiceB hport).mpr hfree) l
      letter.toNat).trans ?_
    rw [hsetup, letterPhrase_eq, hround, hattempt, State.talliedRoster, hlaptop]
    rfl

end Sys2Proof.Machine
end

section
/-! The scan pass (R49 to R54): one key's reading, the press candidates and their ghost test, the Key Queue. -/

namespace Sys2Proof.Machine

/-! ## The ghost test (R52) -/

theorem ghost_iff (keys : List KeyCell) (k : Nat) :
    ghost keys k = true ↔ ∃ r c : Nat, r < 8 ∧ c < 8 ∧ r ≠ k / 8 ∧ c ≠ k % 8 ∧
      keyDown keys (8 * (k / 8) + c) = true ∧ keyDown keys (8 * r + k % 8) = true ∧ keyDown keys (8 * r + c) = true := by
  simp only [ghost, List.any_eq_true, List.mem_range, Bool.and_eq_true, bne_iff_ne, Nat.mul_comm 8]
  constructor
  · rintro ⟨r, hr, c, hc, ⟨⟨⟨hrow, hcol⟩, h1⟩, h2⟩, h3⟩
    exact ⟨r, c, hr, hc, hrow, hcol, h1, h2, h3⟩
  · rintro ⟨r, c, hr, hc, hrow, hcol, h1, h2, h3⟩
    exact ⟨r, hr, c, hc, ⟨⟨⟨hrow, hcol⟩, h1⟩, h2⟩, h3⟩

/-- The keys once a press candidate has met the ghost test (R51). -/
def testKey (keys : List KeyCell) (k : Nat) : List KeyCell :=
  keys.set k { state := if ghost keys k then .blocked else .down, run := 0 }

/-- The keys once the candidates, in turn, have met it. -/
def testKeys (keys : List KeyCell) (ks : List Nat) : List KeyCell := ks.foldl testKey keys

/-- The candidates that become DOWN, each tested against the keys as the earlier ones left them (R51). -/
def passing : List KeyCell → List Nat → List Nat
  | _, [] => []
  | keys, k :: ks => if ghost keys k then passing (testKey keys k) ks else k :: passing (testKey keys k) ks

theorem testKeys_length (keys : List KeyCell) (ks : List Nat) : (testKeys keys ks).length = keys.length := by
  induction ks generalizing keys with
  | nil => rfl
  | cons k ks ih => exact (ih _).trans List.length_set

/-- A key that is no candidate stays as it is. -/
theorem testKeys_other {ks : List Nat} {j : Nat} (h : j ∉ ks) (keys : List KeyCell) :
    (testKeys keys ks)[j]? = keys[j]? := by
  induction ks generalizing keys with
  | nil => rfl
  | cons k ks ih =>
    obtain ⟨hne, hrest⟩ : j ≠ k ∧ j ∉ ks := by simpa using h
    exact (ih hrest _).trans (List.getElem?_set_ne (Ne.symm hne))

theorem testKeys_append (keys : List KeyCell) (ks more : List Nat) :
    testKeys keys (ks ++ more) = testKeys (testKeys keys ks) more := List.foldl_append

/-- A candidate is BLOCKED or DOWN by the keys as the earlier candidates left them (R51, R52). -/
theorem testKeys_at {earlier later : List Nat} {k : Nat} (hlater : k ∉ later) {keys : List KeyCell}
    (hk : k < keys.length) :
    (testKeys keys (earlier ++ k :: later))[k]? =
      some { state := if ghost (testKeys keys earlier) k then .blocked else .down, run := 0 } := by
  rw [testKeys_append]
  show (testKeys (testKey (testKeys keys earlier) k) later)[k]? = _
  rw [testKeys_other hlater]
  exact List.getElem?_set_self (by rw [testKeys_length]; exact hk)

/-- What the earlier candidates left is what the pass leaves of them, and the readings elsewhere. -/
theorem testKeys_earlier {earlier later : List Nat} {k : Nat} (hsorted : (earlier ++ k :: later).Pairwise (· < ·))
    (keys : List KeyCell) :
    testKeys keys earlier = keys.mapIdx (fun j x =>
      if j ∈ earlier ++ k :: later ∧ j < k then (testKeys keys (earlier ++ k :: later)).getD j x else x) := by
  obtain ⟨-, hrest, hbefore⟩ := List.pairwise_append.mp hsorted
  have hbehind (j : Nat) (hj : j ∈ k :: later) : k ≤ j := by
    obtain rfl | hj := List.mem_cons.mp hj
    · exact Nat.le_refl _
    · exact ((List.pairwise_cons.mp hrest).1 j hj).le
  refine List.ext_getElem? fun j => ?_
  rw [List.getElem?_mapIdx]
  by_cases hj : j ∈ earlier
  · have hless : j < k := hbefore j hj k List.mem_cons_self
    have hkept : (testKeys keys (earlier ++ k :: later))[j]? = (testKeys keys earlier)[j]? := by
      rw [testKeys_append]
      exact testKeys_other (fun h => absurd (hbehind j h) (Nat.not_le.mpr hless)) _
    have hcond : j ∈ earlier ++ k :: later ∧ j < k := ⟨List.mem_append_left _ hj, hless⟩
    simp only [hcond, and_self, if_true, List.getD_eq_getElem?_getD, hkept]
    have hlength : (testKeys keys earlier).length = keys.length := testKeys_length _ _
    by_cases hrange : j < keys.length
    · rw [List.getElem?_eq_getElem hrange, List.getElem?_eq_getElem (hlength.symm ▸ hrange)]
      rfl
    · rw [List.getElem?_eq_none (Nat.not_lt.mp hrange), List.getElem?_eq_none (by rw [hlength]; exact Nat.not_lt.mp hrange)]
      rfl
  · have hcond : ¬ (j ∈ earlier ++ k :: later ∧ j < k) := by
      rintro ⟨hmem, hless⟩
      exact absurd (hbehind j ((List.mem_append.mp hmem).resolve_left hj)) (Nat.not_le.mpr hless)
    simp only [hcond, if_false, Option.map_id', testKeys_other hj]

/-- The candidates that pass are those that the pass leaves DOWN. -/
theorem passing_eq {ks : List Nat} (hnodup : ks.Nodup) {keys : List KeyCell} (hkeys : ∀ k ∈ ks, k < keys.length) :
    passing keys ks = ks.filter (keyDown (testKeys keys ks)) := by
  induction ks generalizing keys with
  | nil => rfl
  | cons k ks ih =>
    obtain ⟨hk, hks⟩ := List.nodup_cons.mp hnodup
    have hrest := ih hks (keys := testKey keys k) (fun j hj => by
      rw [testKey, List.length_set]
      exact hkeys j (List.mem_cons_of_mem _ hj))
    have hat : (testKeys keys (k :: ks))[k]? = _ :=
      testKeys_at (earlier := []) hk (hkeys k List.mem_cons_self)
    have hdown : keyDown (testKeys keys (k :: ks)) k = !ghost keys k := by
      rw [keyDown, List.getD_eq_getElem?_getD, hat]
      cases hghost : ghost keys k <;> simp [testKeys, hghost]
    rw [passing, List.filter_cons, hdown, hrest]
    cases ghost keys k <;> rfl

/-! ## The Key Queue (R54) -/

/-- The Key Queue after codes are offered to it in turn. -/
def Scanner.offered (x : Scanner) (ks : List Nat) : List Nat := x.queue ++ ks.take (8 - x.queue.length)

/-- Whether one of the codes offered in turn is dropped. -/
def Scanner.overruns (x : Scanner) (ks : List Nat) : Bool := decide (ks ≠ [] ∧ 8 < x.queue.length + ks.length)

/-- A code that finds room joins the queue's tail (R54). -/
theorem Scanner.offered_cons {x : Scanner} (hroom : x.queue.length < 8) (keys : List KeyCell) (k : Nat) (ks : List Nat) :
    x.offered (k :: ks) = Scanner.offered { keys := keys, queue := x.queue ++ [k] } ks ∧
    x.overruns (k :: ks) = Scanner.overruns { keys := keys, queue := x.queue ++ [k] } ks := by
  constructor
  · obtain ⟨n, hn⟩ : ∃ n, 8 - x.queue.length = n + 1 := ⟨7 - x.queue.length, by omega⟩
    have hrest : 8 - (x.queue.length + 1) = n := by omega
    simp [Scanner.offered, hn, hrest]
  · simp only [Scanner.overruns, List.length_append, List.length_cons, List.length_nil, decide_eq_decide]
    cases ks with
    | nil =>
      simp
      omega
    | cons j ks =>
      simp
      omega

/-- The candidates of a pass considered in turn: the keys tested, the codes that pass offered to the Key Queue. -/
theorem State.considerKeys_eq (ks : List Nat) (s : State) :
    ks.foldl State.considerKey s = { s with
      scanner := { keys := testKeys s.scanner.keys ks, queue := s.scanner.offered (passing s.scanner.keys ks) }
      flags := { s.flags with
        keyOverrun := s.flags.keyOverrun || s.scanner.overruns (passing s.scanner.keys ks) } } := by
  induction ks generalizing s with
  | nil => simp [testKeys, passing, Scanner.offered, Scanner.overruns]
  | cons k ks ih =>
    rw [List.foldl_cons, ih]
    by_cases hghost : ghost s.scanner.keys k = true
    · simp [State.considerKey, hghost, passing, testKeys, testKey, State.setScanner, Scanner.offered, Scanner.overruns]
    · have hpassing : passing s.scanner.keys (k :: ks) = k :: passing (testKey s.scanner.keys k) ks := if_neg hghost
      have hconsider : s.considerKey k =
          (s.setScanner { s.scanner with keys := testKey s.scanner.keys k }).offerKey k := by
        simp [State.considerKey, hghost, testKey]
      rw [hpassing, hconsider]
      obtain ⟨hroom, hoffer⟩ | ⟨hfull, hoffer⟩ :=
        State.offerKey_cases (s := s.setScanner { s.scanner with keys := testKey s.scanner.keys k }) k
      · obtain ⟨hoffered, hoverruns⟩ := Scanner.offered_cons (x := s.scanner) hroom (testKey s.scanner.keys k) k
          (passing (testKey s.scanner.keys k) ks)
        rw [hoffer, hoffered, hoverruns]
        rfl
      · have hover : s.scanner.overruns (k :: passing (testKey s.scanner.keys k) ks) = true := by
          simp only [Scanner.overruns, List.length_cons, decide_eq_true_eq]
          exact ⟨List.cons_ne_nil _ _, by have : 8 ≤ s.scanner.queue.length := hfull; omega⟩
        have hnone : 8 - s.scanner.queue.length = 0 := Nat.sub_eq_zero_of_le hfull
        rw [hoffer, hover]
        simp [State.setFlags, State.setScanner, testKeys, Scanner.offered, hnone]

/-! ## The readings (R50) -/

theorem pressCandidates_sorted (down : BitVec 64) (keys : List KeyCell) : (pressCandidates down keys).Pairwise (· < ·) :=
  List.pairwise_lt_range.filter _

theorem mem_pressCandidates (down : BitVec 64) (keys : List KeyCell) (k : Nat) :
    k ∈ pressCandidates down keys ↔ ∃ x, keys[k]? = some x ∧ (readKey (down.getLsbD k) x).2 = true := by
  simp only [pressCandidates, List.mem_filter, List.mem_range, List.getD_eq_getElem?_getD]
  constructor
  · rintro ⟨hk, hpressed⟩
    rw [List.getElem?_eq_getElem hk] at hpressed
    exact ⟨_, List.getElem?_eq_getElem hk, hpressed⟩
  · rintro ⟨x, hx, hpressed⟩
    rw [hx]
    exact ⟨(List.getElem?_eq_some_iff.mp hx).1, hpressed⟩

/-- A reading makes a press candidate of an UP key at its third disagreeing reading (R50). -/
theorem readKey_pressed {x : KeyCell} (hrun : x.run ≤ 2) (down : Bool) :
    (readKey down x).2 = true ↔ x.state = .up ∧ x.run = 2 ∧ down = true := by
  unfold readKey
  cases hstate : x.state <;> cases down <;> simp <;> split <;> simp <;> omega

theorem readKey_held {x : KeyCell} (h : x.state ≠ .up) : (readKey true x).1 = { state := x.state, run := 0 } := by
  unfold readKey
  cases hstate : x.state <;> simp_all

theorem readKey_releasing {x : KeyCell} (h : x.state ≠ .up) (hrun : x.run < 2) :
    (readKey false x).1 = { state := x.state, run := x.run + 1 } := by
  unfold readKey
  cases hstate : x.state <;> simp_all

theorem readKey_released {x : KeyCell} (h : x.state ≠ .up) (hrun : ¬ x.run < 2) :
    (readKey false x).1 = { state := .up, run := 0 } := by
  unfold readKey
  cases hstate : x.state with
  | up => exact absurd hstate h
  | down | blocked => simp only [if_neg hrun, KeyCell.up]

theorem readKeys_at {keys : List KeyCell} {k : Nat} {x : KeyCell} (hx : keys[k]? = some x) (down : BitVec 64) :
    (readKeys down keys)[k]? = some (readKey (down.getLsbD k) x).1 := by
  rw [readKeys, List.getElem?_mapIdx, hx]
  rfl

/-! ## The pass (R49 to R54) -/

/-- The keys against which a candidate of a pass is tested: the readings, with the earlier candidates as the pass leaves them
(R51). -/
def testedAgainst (keys after : List KeyCell) (ks : List Nat) (k : Nat) : List KeyCell :=
  keys.mapIdx (fun j x => if j ∈ ks ∧ j < k then after.getD j x else x)

theorem testKeys_mem {ks : List Nat} (hsorted : ks.Pairwise (· < ·)) {k : Nat} (hk : k ∈ ks) {keys : List KeyCell}
    (hrange : k < keys.length) :
    (testKeys keys ks)[k]? = some {
      state := if ghost (testedAgainst keys (testKeys keys ks) ks k) k then .blocked else .down, run := 0 } := by
  obtain ⟨earlier, later, rfl⟩ := List.append_of_mem hk
  have hlater : k ∉ later := fun h =>
    Nat.lt_irrefl k ((List.pairwise_cons.mp (List.pairwise_append.mp hsorted).2.1).1 k h)
  rw [testedAgainst, ← testKeys_earlier hsorted]
  exact testKeys_at hlater hrange

/-- The state after a scan pass. -/
theorem State.scan_eq (s : State) (down : BitVec 64) :
    let keys := readKeys down s.scanner.keys
    let ks := pressCandidates down s.scanner.keys
    s.scan down = { s with
      scanner := { keys := testKeys keys ks, queue := s.scanner.offered (passing keys ks) }
      flags := { s.flags with keyOverrun := s.flags.keyOverrun || s.scanner.overruns (passing keys ks) } } :=
  State.considerKeys_eq _ _

/-- Settles O29: one key's reading, the candidates in turn against the keys as the earlier ones left them, the queue. -/
theorem scanPassReadsKeys : Obligations.ScanPassReadsKeys := by
  rintro s down ⟨-, hruns, -⟩
  refine ⟨fun hdozing => by simp only [exec, execScanPass, hdozing], fun hpower => ?_⟩
  let keys := readKeys down s.scanner.keys
  let ks := pressCandidates down s.scanner.keys
  have hscan : exec (.scanPass down) s = .next (s.scan down) := by
    cases h : s.power with
    | dozing => exact absurd h hpower
    | awake | settling => simp only [exec, execScanPass, h]
  have hsorted : ks.Pairwise (· < ·) := pressCandidates_sorted down _
  have hks (k : Nat) : k ∈ ks ↔ ∃ x, s.scanner.keys[k]? = some x ∧ x.state = .up ∧ x.run = 2 ∧ down.getLsbD k = true := by
    rw [mem_pressCandidates]
    refine exists_congr fun x => and_congr_right fun hx => readKey_pressed (hruns x (List.mem_of_getElem? hx)) _
  have hrange (k : Nat) (hk : k ∈ ks) : k < keys.length := by
    obtain ⟨x, hx, -⟩ := (hks k).mp hk
    simpa [keys, readKeys] using (List.getElem?_eq_some_iff.mp hx).1
  have hpassing : passing keys ks = ks.filter (keyDown (testKeys keys ks)) :=
    passing_eq (hsorted.imp Nat.ne_of_lt) hrange
  have htested (k : Nat) (hk : k ∈ ks) := testKeys_mem hsorted hk (hrange k hk)
  have hread (k : Nat) (x : KeyCell) (hx : s.scanner.keys[k]? = some x) (hout : k ∉ ks) :
      (testKeys keys ks)[k]? = some (readKey (down.getLsbD k) x).1 := by
    rw [testKeys_other hout]
    exact readKeys_at hx down
  have hquiet (h : passing keys ks = []) : s.scanner.offered (passing keys ks) = s.scanner.queue ∧
      ({ s.flags with keyOverrun := s.flags.keyOverrun || s.scanner.overruns (passing keys ks) } : Flags) = s.flags := by
    have hkept : s.scanner.overruns [] = false := rfl
    rw [h, hkept, Bool.or_false, Scanner.offered, List.take_nil, List.append_nil]
    exact ⟨rfl, rfl⟩
  refine ⟨s.scan down, hscan, ?_⟩
  rw [State.scan_eq]
  refine ⟨rfl, fun k x hx => ?_, fun hnone => ?_, fun k hhead htail => ?_, hsorted, hks, fun k hk => ?_, ?_, ?_⟩
  · have hout (h : x.state ≠ .up ∨ x.run ≠ 2 ∨ down.getLsbD k = false) : k ∉ ks := by
      intro hk
      obtain ⟨y, hy, hup, hrun, hdown⟩ := (hks k).mp hk
      obtain rfl : x = y := Option.some.inj (hx.symm.trans hy)
      simp [hup, hrun, hdown] at h
    have hcell (c : KeyCell) (hcell : (readKey (down.getLsbD k) x).1 = c) (h : x.state ≠ .up ∨ x.run ≠ 2 ∨
        down.getLsbD k = false) : (testKeys keys ks)[k]? = some c := hcell ▸ hread k x hx (hout h)
    refine ⟨fun hup hdown => hcell _ (by simp [readKey, hup, hdown]) (.inr (.inr hdown)),
      fun hup hdown hrun => hcell _ (by simp [readKey, hup, hdown, hrun]) (.inr (.inl (by omega))),
      fun hup hdown hrun => ?_, fun hheld hdown => hcell _ ?_ (.inl hheld), fun hheld hdown hrun => hcell _ ?_ (.inl hheld),
      fun hheld hdown hrun => hcell _ ?_ (.inl hheld)⟩
    · rw [htested k ((hks k).mpr ⟨x, hx, hup, hrun, hdown⟩)]
      split
      · exact .inr rfl
      · exact .inl rfl
    · rw [hdown, readKey_held hheld]
    · rw [hdown, readKey_releasing hheld hrun]
    · rw [hdown, readKey_released hheld (by omega)]
  · refine hquiet ?_
    rw [show ks = [] from hnone]
    rfl
  · intro others blocked
    have hone : ks = [k] := by
      obtain ⟨rest, hrest⟩ := List.head?_eq_some_iff.mp hhead
      rw [hrest] at htail
      exact hrest.trans (by rw [show rest = [] from htail])
    have hghost : ghost keys k = true ↔ blocked := ghost_iff keys k
    have hk : k < keys.length := hrange k (by rw [hone]; exact List.mem_singleton_self k)
    have hkey : (testKeys keys ks)[k]? = some { state := if ghost keys k then .blocked else .down, run := 0 } := by
      rw [hone]
      exact List.getElem?_set_self hk
    refine ⟨fun hblocked => ⟨hkey.trans (by rw [if_pos (hghost.mpr hblocked)]), hquiet ?_⟩, fun hopen => ?_⟩
    · rw [hone]
      exact if_pos (hghost.mpr hblocked)
    · have hpasses : passing keys ks = [k] := by
        rw [hone]
        exact if_neg (fun h => hopen (hghost.mp h))
      refine ⟨hkey.trans (by rw [if_neg (fun h => hopen (hghost.mp h))]), fun hroom => ⟨?_, ?_⟩, fun hfull => ⟨?_, ?_⟩⟩
      · show s.scanner.offered (passing keys ks) = _
        rw [hpasses, Scanner.offered, List.take_of_length_le (by simp; omega)]
      · show ({ s.flags with keyOverrun := s.flags.keyOverrun || s.scanner.overruns (passing keys ks) } : Flags) = _
        have hkept : s.scanner.overruns [k] = false := by simpa [Scanner.overruns] using hroom
        rw [hpasses, hkept, Bool.or_false]
      · show s.scanner.offered (passing keys ks) = _
        rw [hpasses, Scanner.offered, Nat.sub_eq_zero_of_le hfull, List.take_zero, List.append_nil]
      · show (s.flags.keyOverrun || s.scanner.overruns (passing keys ks)) = true
        have hover : s.scanner.overruns [k] = true := by
          simp [Scanner.overruns]
          omega
        rw [hpasses, hover, Bool.or_true]
  · intro others blocked
    have hghost : ghost (testedAgainst keys (testKeys keys ks) ks k) k = true ↔ blocked := ghost_iff others k
    refine ⟨fun hblocked => ?_, fun hopen => ?_⟩
    · exact (htested k hk).trans (by rw [if_pos (hghost.mpr hblocked)])
    · exact (htested k hk).trans (by rw [if_neg (fun h => hopen (hghost.mp h))])
  · show s.scanner.offered (passing keys ks) = _
    rw [hpassing]
    rfl
  · show (s.flags.keyOverrun || s.scanner.overruns (passing keys ks)) = true ↔ _
    rw [hpassing, Bool.or_eq_true, Scanner.overruns, decide_eq_true_eq]

end Sys2Proof.Machine
end

section
/-! The walk, move by move (R88 to R91, R98, R111): one move, pairs skipped, the next pair, the next link; what an event in
which a walk advances leaves. -/

namespace Sys2Proof.Machine

/-! ## One move of an advance (R111) -/

theorem walkOn_full {b : List Fetched} (h : 2 ≤ b.length) (fuel : Nat) (c : Context) : walkOn fuel c b = (c, b, none) := by
  cases fuel with
  | zero => rfl
  | succ fuel => exact if_pos h

section
variable {c : Context} {b : List Fetched} (hroom : b.length < 2) (fuel : Nat)
include hroom

theorem walkOn_needs {kind : TransferKind} (h : walkMove c.chain c.place = .needs kind) :
    walkOn (fuel + 1) c b = (c, b, some kind) := by
  rw [walkOn, if_neg (Nat.not_le.mpr hroom), h]

theorem walkOn_done (h : walkMove c.chain c.place = .done) : walkOn (fuel + 1) c b = (c, b, none) := by
  rw [walkOn, if_neg (Nat.not_le.mpr hroom), h]

theorem walkOn_goesOn {place : WalkPlace} (h : walkMove c.chain c.place = .goesOn place) :
    walkOn (fuel + 1) c b = walkOn fuel { c with place := place } b := by
  rw [walkOn, if_neg (Nat.not_le.mpr hroom), h]

theorem walkOn_silence {place : WalkPlace} (h : walkMove c.chain c.place = .silence place) :
    walkOn (fuel + 1) c b = walkOn fuel { c with place := place, yielded := true }
      (b ++ [{ sound := .silence, point := placePoint c.chain c.place }]) := by
  rw [walkOn, if_neg (Nat.not_le.mpr hroom), h]

end

/-! ## Moves from a pair (R88, R89) -/

section
variable {d : Descriptor} {pair : Nat} {p : Pair} (hp : d.pairs[pair - 1]? = some p)
include hp

theorem walkMove_empty (hlength : p.length = 0) (chain : Nat) (ref : DescRef) (frame : Nat) (seg : Option SegEntry) :
    walkMove chain (.pairs ref d pair frame seg) = .goesOn (.pairs ref d (pair + 1) 0 none) := by
  simp [walkMove, hp, hlength]

theorem walkMove_asksSegment (hlength : 1 ≤ p.length) (hsegment : 1 ≤ p.segment) (chain : Nat) (ref : DescRef) (frame : Nat) :
    walkMove chain (.pairs ref d pair frame none) = .needs (.segmentDirectory p.segment) := by
  simp [walkMove, hp, Nat.ne_of_gt hlength, Nat.ne_of_gt hsegment]

theorem walkMove_silence {frame : Nat} {seg : Option SegEntry} (hsilent : p.segment = 0 ∨ seg = some .silent)
    (hframe : frame < p.length) (chain : Nat) (ref : DescRef) :
    walkMove chain (.pairs ref d pair frame seg) = .silence (.pairs ref d pair (frame + 1) seg) := by
  have hlength : p.length ≠ 0 := Nat.ne_of_gt (Nat.zero_lt_of_lt hframe)
  simp only [walkMove, hp, if_neg hlength, if_pos hsilent, if_pos hframe]

theorem walkMove_asksFrame (hsegment : 1 ≤ p.segment) {frame count : Nat} (hframe : frame < p.length)
    (hcount : frame < count) (chain : Nat) (ref : DescRef) (start : BitVec 24) :
    walkMove chain (.pairs ref d pair frame (some (.run start count))) = .needs (.frame (frameAddress start frame)) := by
  have hlength : p.length ≠ 0 := Nat.ne_of_gt (Nat.zero_lt_of_lt hframe)
  have hsound : ¬ (p.segment = 0 ∨ some (SegEntry.run start count) = some .silent) := by
    rintro (h | h)
    · omega
    · simp at h
  simp only [walkMove, hp, if_neg hlength, if_neg hsound, if_pos (lt_min hframe hcount)]

/-- Past its frames a walk goes on behind its pair (R88). -/
theorem walkMove_past (hlength : 1 ≤ p.length) {frame : Nat} {seg : Option SegEntry}
    (h : (p.length ≤ frame ∧ (p.segment = 0 ∨ seg ≠ none)) ∨
      (∃ start count, seg = some (.run start count) ∧ 1 ≤ p.segment ∧ min p.length count ≤ frame))
    (chain : Nat) (ref : DescRef) :
    walkMove chain (.pairs ref d pair frame seg) = .goesOn (.pairs ref d (pair + 1) 0 none) := by
  have hsome : p.length ≠ 0 := Nat.ne_of_gt hlength
  by_cases hsilent : p.segment = 0 ∨ seg = some .silent
  · have hframe : ¬ frame < p.length := by
      obtain ⟨hpast, -⟩ | ⟨start, count, hrun, hsegment, -⟩ := h
      · omega
      · rw [hrun] at hsilent
        obtain h | h := hsilent
        · omega
        · simp at h
    simp only [walkMove, hp, if_neg hsome, if_pos hsilent, if_neg hframe]
  · obtain ⟨start, count, hrun, hframe⟩ : ∃ start count, seg = some (.run start count) ∧ ¬ frame < min p.length count := by
      obtain ⟨hpast, hseg⟩ | ⟨start, count, hrun, -, hpast⟩ := h
      · match seg with
        | none => simp_all
        | some .silent => simp_all
        | some (.run start count) =>
          exact ⟨start, count, rfl, fun h => absurd (lt_min_iff.mp h).1 (Nat.not_lt.mpr hpast)⟩
      · exact ⟨start, count, hrun, Nat.not_lt.mpr hpast⟩
    rw [hrun] at hsilent ⊢
    simp only [walkMove, hp, if_neg hsome, if_neg hsilent, if_neg hframe]

end

theorem walkMove_end {d : Descriptor} {pair : Nat} (hp : d.pairs[pair - 1]? = none) (chain : Nat) (ref : DescRef) (frame : Nat)
    (seg : Option SegEntry) :
    walkMove chain (.pairs ref d pair frame seg) = .goesOn (leaveDescriptor chain ref d.link) := by
  simp [walkMove, hp]

/-! ## From a pair to the next (R88 to R90) -/

/-- Where a walk that leaves by its next link stands, and what it asks for (R89, R90). -/
theorem leaveDescriptor_end (chain : Nat) (ref : DescRef) : leaveDescriptor chain ref 0 = .finished .complete := rfl

theorem leaveDescriptor_cut {chain link : Nat} (hlink : link ≠ 0) (hchain : 16 ≤ chain) (ref : DescRef) :
    leaveDescriptor chain ref link = .finished .cut :=
  (if_neg hlink).trans (if_pos hchain)

theorem leaveDescriptor_rom {chain link : Nat} (hlink : link ≠ 0) (hchain : chain < 16) (a : BitVec 24) :
    leaveDescriptor chain (.rom a) link = .phraseEntry link := by
  rw [leaveDescriptor, if_neg hlink, if_neg (Nat.not_le.mpr hchain)]

theorem leaveDescriptor_ram {chain link : Nat} (hlink : link ≠ 0) (hchain : chain < 16) (n : Nat) :
    leaveDescriptor chain (.ram n) link = .descriptor (.ram link) 1 false := by
  rw [leaveDescriptor, if_neg hlink, if_neg (Nat.not_le.mpr hchain)]

/-- A walk skips pairs of length 0 without a fetch (R88). -/
theorem walkOn_skips {d : Descriptor} {b : List Fetched} (hroom : b.length < 2) (ref : DescRef) (skipped : Nat) :
    ∀ (pair fuel : Nat) (c : Context), c.place = .pairs ref d (pair + 1) 0 none →
      (∀ z ∈ (d.pairs.drop pair).take skipped, z.length = 0) → skipped ≤ (d.pairs.drop pair).length →
      walkOn (fuel + skipped) c b = walkOn fuel { c with place := .pairs ref d (pair + skipped + 1) 0 none } b := by
  induction skipped with
  | zero =>
    intro pair fuel c hc _ _
    rw [Nat.add_zero, Nat.add_zero, ← hc]
  | succ n ih =>
    intro pair fuel c hc hzero hlength
    have hpair : pair < d.pairs.length := by
      rw [List.length_drop] at hlength
      omega
    have hdrop := List.drop_eq_getElem_cons hpair
    rw [hdrop, List.take_succ_cons] at hzero
    rw [hdrop, List.length_cons] at hlength
    have hmove : walkMove c.chain c.place = .goesOn (.pairs ref d (pair + 1 + 1) 0 none) := by
      rw [hc]
      exact walkMove_empty (by rw [Nat.add_sub_cancel, List.getElem?_eq_getElem hpair]) (hzero _ List.mem_cons_self) _ _ _ _
    rw [← Nat.add_assoc, walkOn_goesOn hroom _ hmove, ih (pair + 1) fuel _ rfl
      (fun y hy => hzero y (List.mem_cons_of_mem _ hy)) (by omega)]
    simp only [Nat.add_assoc, Nat.add_comm 1]

section
variable {d : Descriptor} {pair : Nat} (hpairs : d.pairs.length ≤ 6) (ref : DescRef) {c : Context}
  (hc : c.place = .pairs ref d (pair + 1) 0 none)
include hpairs hc

/-- The walk reaches the next pair that has a length (R88). -/
theorem walkOn_reaches {b : List Fetched} (hroom : b.length < 2) {skipped : Nat} {q : Pair}
    (hq : (d.pairs.drop pair)[skipped]? = some q) (hzero : ∀ z ∈ (d.pairs.drop pair).take skipped, z.length = 0) :
    (∃ fuel, walkOn 11 c b = walkOn (fuel + 2) { c with place := .pairs ref d (pair + skipped + 1) 0 none } b) ∧
    d.pairs[pair + skipped + 1 - 1]? = some q := by
  have hat : d.pairs[pair + skipped]? = some q := by rw [← List.getElem?_drop, hq]
  have hskipped : skipped < (d.pairs.drop pair).length := (List.getElem?_eq_some_iff.mp hq).1
  have hdrop := List.length_drop (i := pair) (l := d.pairs)
  refine ⟨⟨9 - skipped, ?_⟩, by rw [Nat.add_sub_cancel, hat]⟩
  have hfuel : 11 = (9 - skipped + 2) + skipped := by omega
  rw [hfuel, walkOn_skips hroom ref skipped pair _ c hc hzero hskipped.le]

/-- The next pair of a sound segment asks for its segment's directory entry (R88). -/
theorem walkOn_nextSound {b : List Fetched} (hroom : b.length < 2) {skipped : Nat} {q : Pair}
    (hq : (d.pairs.drop pair)[skipped]? = some q) (hzero : ∀ z ∈ (d.pairs.drop pair).take skipped, z.length = 0)
    (hlength : 1 ≤ q.length) (hsegment : 1 ≤ q.segment) :
    walkOn 11 c b = ({ c with place := .pairs ref d (pair + skipped + 1) 0 none }, b,
      some (.segmentDirectory q.segment)) := by
  obtain ⟨⟨fuel, hfuel⟩, hat⟩ := walkOn_reaches hpairs ref hc hroom hq hzero
  rw [hfuel]
  exact walkOn_needs hroom _ (walkMove_asksSegment hat hlength hsegment _ _ _)

/-- The next pair of segment 0 gives a silence frame, with which the buffer is full (R88, R111). -/
theorem walkOn_nextSilent {g : Fetched} {skipped : Nat} {q : Pair} (hq : (d.pairs.drop pair)[skipped]? = some q)
    (hzero : ∀ z ∈ (d.pairs.drop pair).take skipped, z.length = 0) (hlength : 1 ≤ q.length) (hsegment : q.segment = 0) :
    walkOn 11 c [g] = ({ c with place := .pairs ref d (pair + skipped + 1) 1 none, yielded := true },
      [g, { sound := .silence, point := .pair ref c.chain (pair + skipped + 1) }], none) := by
  have hroom : [g].length < 2 := Nat.one_lt_two
  obtain ⟨⟨fuel, hfuel⟩, hat⟩ := walkOn_reaches hpairs ref hc hroom hq hzero
  rw [hfuel]
  refine (walkOn_silence hroom _ (walkMove_silence hat (.inl hsegment) hlength _ _)).trans ?_
  exact walkOn_full (by simp) _ _

/-- With no pair left the walk leaves its descriptor by the next link (R89, R90). -/
theorem walkOn_leaves {b : List Fetched} (hroom : b.length < 2) (hpair : pair ≤ d.pairs.length)
    (hzero : ∀ q ∈ d.pairs.drop pair, q.length = 0) :
    ∃ fuel, walkOn 11 c b = walkOn (fuel + 1) { c with place := leaveDescriptor c.chain ref d.link } b := by
  have hdrop := List.length_drop (i := pair) (l := d.pairs)
  have hall : (d.pairs.drop pair).take (d.pairs.drop pair).length = d.pairs.drop pair := List.take_length
  refine ⟨9 - (d.pairs.drop pair).length, ?_⟩
  have hfuel : 11 = (9 - (d.pairs.drop pair).length + 2) + (d.pairs.drop pair).length := by omega
  have hend : d.pairs[pair + (d.pairs.drop pair).length + 1 - 1]? = none := by
    rw [List.getElem?_eq_none_iff]
    omega
  calc walkOn 11 c b
      = walkOn ((9 - (d.pairs.drop pair).length + 2) + (d.pairs.drop pair).length) c b := congrArg (walkOn · c b) hfuel
    _ = walkOn (9 - (d.pairs.drop pair).length + 2)
          { c with place := .pairs ref d (pair + (d.pairs.drop pair).length + 1) 0 none } b :=
        walkOn_skips hroom ref _ pair _ c hc (by rw [hall]; exact hzero) (Nat.le_refl _)
    _ = _ := walkOn_goesOn hroom _ (walkMove_end hend _ _ _ _)

section
variable {b : List Fetched} (hroom : b.length < 2) (hpair : pair ≤ d.pairs.length)
  (hzero : ∀ q ∈ d.pairs.drop pair, q.length = 0)
include hroom hpair hzero

theorem walkOn_ends (hlink : d.link = 0) : walkOn 11 c b = ({ c with place := .finished .complete }, b, none) := by
  obtain ⟨fuel, hfuel⟩ := walkOn_leaves hpairs ref hc hroom hpair hzero
  rw [hfuel, hlink, leaveDescriptor_end]
  exact walkOn_done hroom fuel rfl

theorem walkOn_cut (hlink : d.link ≠ 0) (hchain : 16 ≤ c.chain) :
    walkOn 11 c b = ({ c with place := .finished .cut }, b, none) := by
  obtain ⟨fuel, hfuel⟩ := walkOn_leaves hpairs ref hc hroom hpair hzero
  rw [hfuel, leaveDescriptor_cut hlink hchain]
  exact walkOn_done hroom fuel rfl

theorem walkOn_linkRom (hlink : d.link ≠ 0) (hchain : c.chain < 16) {a : BitVec 24} (hrom : ref = .rom a) :
    walkOn 11 c b = ({ c with place := .phraseEntry d.link }, b, some (.phraseDirectory d.link)) := by
  obtain ⟨fuel, hfuel⟩ := walkOn_leaves hpairs ref hc hroom hpair hzero
  rw [hfuel, hrom, leaveDescriptor_rom hlink hchain]
  exact walkOn_needs hroom fuel rfl

theorem walkOn_linkRam (hlink : d.link ≠ 0) (hchain : c.chain < 16) {n : Nat} (hram : ref = .ram n) :
    walkOn 11 c b = ({ c with place := .descriptor (.ram d.link) 1 false }, b, some (.ramDescriptor d.link)) := by
  obtain ⟨fuel, hfuel⟩ := walkOn_leaves hpairs ref hc hroom hpair hzero
  rw [hfuel, hram, leaveDescriptor_ram hlink hchain]
  exact walkOn_needs hroom fuel rfl

end

end

/-! ## An event in which a walk advances (R98, R111) -/

/-- A walk that needs a transfer asks for it, and the event's end grants what it can (R98). -/
theorem State.advance_asks {s : State} {v : VoiceId} {c c' : Context} {b : List Fetched} {kind : TransferKind}
    (hcurrent : (s.voice v).current = some c) (hfree : s.hasTransfer (.voice v) = false)
    (hwalk : walkOn walkFuel c (s.voice v).buffer = (c', b, some kind)) :
    s.advance v = (s.setVoice v { s.voice v with current := some c', buffer := b }).ask (.voice v) kind := by
  simp only [State.advance, hcurrent, hfree, hwalk, Bool.false_eq_true, if_false]

theorem State.advance_rests {s : State} {v : VoiceId} {c c' : Context} {b : List Fetched}
    (hcurrent : (s.voice v).current = some c) (hfree : s.hasTransfer (.voice v) = false)
    (hwalk : walkOn walkFuel c (s.voice v).buffer = (c', b, none)) :
    s.advance v = s.setVoice v { s.voice v with current := some c', buffer := b } := by
  simp only [State.advance, hcurrent, hfree, hwalk, Bool.false_eq_true, if_false]

/-- A voice with a transfer at the port makes no other (R98). -/
theorem State.advance_busy {s : State} {v : VoiceId} (h : s.hasTransfer (.voice v) = true) : s.advance v = s := by
  unfold State.advance
  split
  · rfl
  · rw [if_pos h]

/-- After a transfer an utterance that has held a frame, or whose walk is not at its end, goes on (R91, R111). -/
theorem State.goOn_eq {s : State} {v : VoiceId} {c : Context} (hcurrent : ((s.advance v).voice v).current = some c)
    (h : c.yielded = true ∨ ∀ o, c.place ≠ .finished o) : s.goOn v = s.advance v := by
  simp only [State.goOn, hcurrent]
  split
  · rename_i o hplace hyielded
    obtain hyes | hnot := h
    · exact Bool.noConfusion (hyielded.symm.trans hyes)
    · exact absurd hplace (hnot o)
  · rfl

/-- A voice's transfer handed to its walk, which asks for the next one (R98, R99, R111). -/
theorem State.goOn_asks {s : State} {v : VoiceId} {c c' : Context} {b b' : List Fetched} {kind : TransferKind}
    (hwaiting : s.port.waiting.any (fun u => u.requester == .voice v) = false)
    (hwalk : walkOn walkFuel c b = (c', b', some kind)) (hgoes : c'.yielded = true ∨ ∀ o, c'.place ≠ .finished o) :
    ((s.transferEnds.setVoice v { s.voice v with current := some c, buffer := b }).goOn v).grant =
      (s.setVoice v { s.voice v with current := some c', buffer := b' }).setPort
        (s.transferEnds.portAsked (.voice v) kind) := by
  let u := s.transferEnds.setVoice v { s.voice v with current := some c, buffer := b }
  have hvoice : u.voice v = { s.voice v with current := some c, buffer := b } := by simp [u]
  have hfree : u.hasTransfer (.voice v) = false := by
    simpa [u] using State.transferEnds_hasTransfer hwaiting
  have hadvance := State.advance_asks (s := u) (v := v) (c := c) (by rw [hvoice]) hfree (by rw [hvoice]; exact hwalk)
  rw [State.goOn_eq (c := c') (by rw [hadvance, State.ask_voice]; simp) hgoes, hadvance, State.grant_ask, hvoice,
    State.setVoice_setVoice]
  rw [State.portAsked_congr (s := s.transferEnds) (by rw [State.setVoice_port])]
  cases v <;> rfl

theorem State.goOn_rests {s : State} {v : VoiceId} {c c' : Context} {b b' : List Fetched}
    (hwaiting : s.port.waiting.any (fun u => u.requester == .voice v) = false)
    (hwalk : walkOn walkFuel c b = (c', b', none)) (hgoes : c'.yielded = true ∨ ∀ o, c'.place ≠ .finished o) :
    ((s.transferEnds.setVoice v { s.voice v with current := some c, buffer := b }).goOn v).grant =
      (s.setVoice v { s.voice v with current := some c', buffer := b' }).setPort s.transferEnds.grant.port := by
  let u := s.transferEnds.setVoice v { s.voice v with current := some c, buffer := b }
  have hvoice : u.voice v = { s.voice v with current := some c, buffer := b } := by simp [u]
  have hfree : u.hasTransfer (.voice v) = false := by
    simpa [u] using State.transferEnds_hasTransfer hwaiting
  have hadvance := State.advance_rests (s := u) (v := v) (c := c) (by rw [hvoice]) hfree (by rw [hvoice]; exact hwalk)
  rw [State.goOn_eq (c := c') (by rw [hadvance]; simp) hgoes, hadvance, hvoice, State.setVoice_setVoice]
  refine (State.grant_of_port_eq (s := s.transferEnds) (by rw [State.setVoice_port])).trans ?_
  cases v <;> rfl

end Sys2Proof.Machine
end

section
/-! Voices' fetches (R85 to R91, R99, R100, R111): directory entries, descriptors, frames, bytes thrown away; the port's
grants (R98). -/

namespace Sys2Proof.Machine

/-! ## A voice's transfer handed to its walk (R99, R100) -/

section
variable {s : State} {v : VoiceId} {t : Transfer} (hrequester : t.requester = .voice v) (hkept : t.discarded = false)
  {c : Context} (hcurrent : (s.voice v).current = some c)

include hkept hcurrent

theorem State.voiceTakes_kept (take : Context → Context) :
    s.transferEnds.voiceTakes v t take =
      (s.transferEnds.setVoice v { s.voice v with current := some (take c), buffer := (s.voice v).buffer }).goOn v := by
  have hvoice : s.transferEnds.voice v = s.voice v := by cases v <;> rfl
  simp only [State.voiceTakes, hkept, hvoice, hcurrent, Bool.false_eq_true, if_false]

theorem State.frameArrives_kept (bytes : List Byte) :
    s.transferEnds.frameArrives v t bytes =
      (s.transferEnds.setVoice v { s.voice v with
        current := some (passFrame c)
        buffer := (s.voice v).buffer ++ [{ sound := .frame bytes, point := placePoint c.chain c.place }] }).goOn v := by
  have hvoice : s.transferEnds.voice v = s.voice v := by cases v <;> rfl
  simp only [State.frameArrives, hkept, hvoice, hcurrent, Bool.false_eq_true, if_false]

include hrequester
variable (hport : s.port.inFlight = some t) (bytes : List Byte)
include hport

theorem exec_phraseDirectoryFetch (hkind : t.kind.isPhraseDirectory = true) :
    exec (.phraseDirectoryFetch bytes) s = .next ((s.transferEnds.setVoice v { s.voice v with
      current := some (takeEntry (addressAt bytes 0) c), buffer := (s.voice v).buffer }).goOn v).grant := by
  rw [← State.voiceTakes_kept hkept hcurrent]
  refine (transferEvent_ends hport hkind _).trans ?_
  simp only [handPhraseEntry, hrequester]

theorem exec_segmentDirectoryFetch (hkind : t.kind.isSegmentDirectory = true) :
    exec (.segmentDirectoryFetch bytes) s = .next ((s.transferEnds.setVoice v { s.voice v with
      current := some (takeSegment (segEntryOf bytes) c), buffer := (s.voice v).buffer }).goOn v).grant := by
  rw [← State.voiceTakes_kept hkept hcurrent]
  refine (transferEvent_ends hport hkind _).trans ?_
  simp only [handSegment, hrequester]

theorem exec_romDescriptorFetch (hkind : t.kind.isRomDescriptor = true) :
    exec (.romDescriptorFetch bytes) s = .next ((s.transferEnds.setVoice v { s.voice v with
      current := some (takeDescriptor (descriptorOf bytes) c), buffer := (s.voice v).buffer }).goOn v).grant := by
  rw [← State.voiceTakes_kept hkept hcurrent]
  refine (transferEvent_ends hport hkind _).trans ?_
  simp only [handDescriptor, hrequester]

theorem exec_ramDescriptorFetch {n : Nat} (hkind : t.kind.ramSlot = some n) {d : Descriptor} (hd : s.store.slot n = some d) :
    exec .ramDescriptorFetch s = .next ((s.transferEnds.setVoice v { s.voice v with
      current := some (takeDescriptor d c), buffer := (s.voice v).buffer }).goOn v).grant := by
  rw [← State.voiceTakes_kept hkept hcurrent]
  have hfits : t.kind.ramSlot.isSome = true := by rw [hkind]; rfl
  refine (transferEvent_ends (fits := fun k => k.ramSlot.isSome) hport hfits handSlot).trans ?_
  have hslot : s.transferEnds.store.slot n = some d := hd
  simp only [handSlot, hrequester, hkind, Option.bind_some, hslot, Option.getD_some]

theorem exec_frameFetch (hkind : t.kind.isFrame = true) :
    exec (.frameFetch bytes) s = .next ((s.transferEnds.setVoice v { s.voice v with
      current := some (passFrame c)
      buffer := (s.voice v).buffer ++ [{ sound := .frame bytes, point := placePoint c.chain c.place }] }).goOn v).grant := by
  rw [← State.frameArrives_kept hkept hcurrent]
  refine (transferEvent_ends hport hkind _).trans ?_
  simp only [handFrame, hrequester]

end

/-! ## Entries and descriptors (R85, R87, R89, R117) -/

theorem takeEntry_empty (c : Context) : takeEntry 0xFFFFFF c = { c with place := .finished .complete } := rfl

theorem takeEntry_address {a : BitVec 24} (h : a ≠ 0xFFFFFF) (c : Context) :
    takeEntry a c = { c with place := .descriptor (.rom a) 1 false } := if_neg h

theorem takeDescriptor_enters {c : Context} {ref : DescRef} {pair : Nat} {again : Bool}
    (hplace : c.place = .descriptor ref pair again) (d : Descriptor) :
    takeDescriptor d c = { c with chain := if again then c.chain else c.chain + 1, place := .pairs ref d pair 0 none } := by
  simp only [takeDescriptor, hplace]

theorem takeSegment_takes {c : Context} {ref : DescRef} {d : Descriptor} {pair frame : Nat} {seg : Option SegEntry}
    (hplace : c.place = .pairs ref d pair frame seg) (e : SegEntry) :
    takeSegment e c = { c with place := .pairs ref d pair frame (some e) } := by
  simp only [takeSegment, hplace]

theorem passFrame_passes {c : Context} {ref : DescRef} {d : Descriptor} {pair frame : Nat} {seg : Option SegEntry}
    (hplace : c.place = .pairs ref d pair frame seg) :
    passFrame c = { c with place := .pairs ref d pair (frame + 1) seg, yielded := true } := by
  simp only [passFrame, hplace]

/-- The pair of a ROM descriptor's bytes that a walk goes to (R87). -/
theorem descriptorOf_pair (bytes : List Byte) {pair : Nat} (hlow : 1 ≤ pair) (hhigh : pair ≤ 6) :
    (descriptorOf bytes).pairs[pair - 1]? = some {
      length := byteAt bytes (3 * (pair - 1)), segment := word16At bytes (3 * (pair - 1) + 1) % 1024 } := by
  have hrange : (List.range 6)[pair - 1]? = some (pair - 1) := List.getElem?_range (by omega)
  simp only [descriptorOf, List.getElem?_map, hrange, Option.map_some, pairAt]

/-! ## An utterance that ends (R91, R113, R120, R121) -/

theorem State.setVoice_self {s : State} {v : VoiceId} {x : Voice} (h : s.voice v = x) : s.setVoice v x = s := by
  subst h
  cases v <;> rfl

theorem State.chooseNext_quiet {s : State} {v : VoiceId} (h : s.voice v = Voice.quiet) : s.chooseNext v = s := by
  have hsame : s.chooseNext v = s.setVoice v Voice.quiet := by
    simp only [State.chooseNext, h]
    rfl
  rw [hsame, State.setVoice_self h]

theorem State.markTold_voice (s : State) (m : Option Nat) (v : VoiceId) : (s.markTold m).voice v = s.voice v := by
  cases m with
  | none => rfl
  | some n =>
    show (s.markEnded n).voice v = _
    unfold State.markEnded
    (repeat' split) <;> cases v <;> rfl

/-- A voice whose utterance, a phrase, ends with nothing else held falls QUIET (R113, R116, R120, R121). -/
theorem State.endCurrent_quiet {s : State} {v : VoiceId} {c : Context} {p : Nat} (hcurrent : (s.voice v).current = some c)
    (hqueue : (s.voice v).queue = []) (hstack : (s.voice v).stack = []) (hstart : c.entry.start = .phrase p)
    (o : SpokenOutcome) :
    s.endCurrent v o =
      ((if c.entry.tag = 0 then s else s.post (.spoken c.entry.tag o)).setVoice v Voice.quiet).markTold c.entry.markNo := by
  have hquiet : ({ s.voice v with current := none, buffer := [], rendering := .silence } : Voice) = Voice.quiet := by
    simp only [hqueue, hstack]
    rfl
  have hended : (s.setVoice v Voice.quiet).endEntry false c.entry o =
      ((if c.entry.tag = 0 then s else s.post (.spoken c.entry.tag o)).setVoice v Voice.quiet).markTold c.entry.markNo := by
    rw [State.endEntry_marked hstart, State.post_setVoice]
    split <;> rfl
  simp only [State.endCurrent, hcurrent]
  rw [hquiet, hended]
  refine State.chooseNext_quiet ?_
  rw [State.markTold_voice]
  simp

/-- An utterance whose sequence holds no frame ends COMPLETE at once (R91, R113). -/
theorem State.goOn_frameless {s : State} {v : VoiceId} {c : Context} {p : Nat} {o : SpokenOutcome}
    (hwaiting : s.port.waiting.any (fun u => u.requester == .voice v) = false) (hbuffer : (s.voice v).buffer.length < 2)
    (hqueue : (s.voice v).queue = []) (hstack : (s.voice v).stack = []) (hstart : c.entry.start = .phrase p)
    (hunmarked : c.entry.markNo = none) (hplace : c.place = .finished o) (hyielded : c.yielded = false) :
    ((s.transferEnds.setVoice v { s.voice v with current := some c, buffer := (s.voice v).buffer }).goOn v).grant =
      ((if c.entry.tag = 0 then s else s.post (.spoken c.entry.tag .complete)).setVoice v Voice.quiet).setPort
        s.transferEnds.grant.port := by
  let u := s.transferEnds.setVoice v { s.voice v with current := some c, buffer := (s.voice v).buffer }
  have hvoice : u.voice v = { s.voice v with current := some c, buffer := (s.voice v).buffer } := by simp [u]
  have hfree : u.hasTransfer (.voice v) = false := by
    simpa [u] using State.transferEnds_hasTransfer hwaiting
  have hwalk : walkOn walkFuel c (u.voice v).buffer = (c, (s.voice v).buffer, none) := by
    rw [hvoice]
    exact walkOn_done hbuffer 11 (by rw [hplace]; rfl)
  have hadvance : u.advance v = u := by
    rw [State.advance_rests (s := u) (v := v) (c := c) (by rw [hvoice]) hfree hwalk]
    exact State.setVoice_self (by rw [hvoice])
  have hends : u.goOn v = u.endCurrent v .complete := by
    simp only [State.goOn, hadvance, hvoice, hplace, hyielded]
  rw [hends, State.endCurrent_quiet (s := u) (by rw [hvoice]) (by rw [hvoice, hqueue]) (by rw [hvoice, hstack]) hstart,
    hunmarked]
  have hport : ((if c.entry.tag = 0 then u else u.post (.spoken c.entry.tag .complete)).setVoice v Voice.quiet).port =
      s.transferEnds.port := by
    rw [State.setVoice_port]
    split <;> simp [u, State.setVoice_port]
  show State.grant (State.setVoice _ v Voice.quiet) = _
  rw [State.grant_of_port_eq hport]
  by_cases htag : c.entry.tag = 0
  · rw [if_pos htag, if_pos htag]
    rw [State.setVoice_setVoice]
    cases v <;> rfl
  · have hposted : u.post (.spoken c.entry.tag .complete) =
        ((s.post (.spoken c.entry.tag .complete)).setPort s.transferEnds.port).setVoice v (u.voice v) := by
      rw [hvoice]
      exact (State.post_setVoice _ _ _ _).trans (congrArg (State.setVoice · v _) (State.post_setPort _ _ _))
    rw [if_neg htag, if_neg htag, hposted, State.setVoice_setVoice]
    cases v <;> rfl

/-- Settles O21: the empty entry, the descriptor's address, and a descriptor entered at a pair with frames. -/
theorem walkEntersDescriptors : Obligations.WalkEntersDescriptors := by
  refine ⟨fun s v bytes c hcurrent t hport hrequester hkind hkept hwaiting hroom => ?_,
    fun s v c hcurrent t hport hrequester hkept hwaiting hroom ref again pair hpair hplace => ?_⟩
  · have hexec := exec_phraseDirectoryFetch hrequester hkept hcurrent hport bytes hkind
    refine ⟨fun haddress => ?_, fun hempty hyielded => ?_, fun p hstart hempty hyielded hmark hqueue hstack => ?_⟩
    · rw [hexec, takeEntry_address haddress]
      exact congrArg Host.Outcome.next (State.goOn_asks hwaiting (walkOn_needs hroom 11 rfl) (.inr nofun))
    · rw [hexec, hempty, takeEntry_empty]
      exact congrArg Host.Outcome.next (State.goOn_rests hwaiting (walkOn_done hroom 11 rfl) (.inl hyielded))
    · rw [hexec, hempty, takeEntry_empty]
      exact congrArg Host.Outcome.next (State.goOn_frameless hwaiting hroom hqueue hstack hstart
        (Option.isSome_eq_false_iff.mp hmark |> Option.isNone_iff_eq_none.mp) rfl hyielded)
  · intro entered
    have henters (d : Descriptor) (p : Pair) (hp : d.pairs[pair - 1]? = some p) (hlength : 1 ≤ p.length)
        (hsegment : 1 ≤ p.segment) :
        ((s.transferEnds.setVoice v { s.voice v with
          current := some (takeDescriptor d c), buffer := (s.voice v).buffer }).goOn v).grant = entered d p := by
      rw [takeDescriptor_enters hplace]
      exact State.goOn_asks hwaiting (walkOn_needs hroom 11 (walkMove_asksSegment hp hlength hsegment _ _ _)) (.inr nofun)
    refine ⟨?_, fun n hkind d hd p hp hlength hsegment => ?_⟩
    · intro bytes hkind p hsix hlength hsegment
      rw [exec_romDescriptorFetch hrequester hkept hcurrent hport bytes hkind,
        henters _ _ (descriptorOf_pair bytes hpair hsix) hlength hsegment]
    · rw [exec_ramDescriptorFetch hrequester hkept hcurrent hport hkind hd, henters d p hp hlength hsegment]

/-! ## Frames (R86, R88, R111) -/

theorem frameAddress_zero (start : BitVec 24) : frameAddress start 0 = start := by
  simp [frameAddress]

theorem segEntryOf_run {bytes : List Byte} (hstart : addressAt bytes 0 ≠ 0xFFFFFF) (hcount : 1 ≤ word16At bytes 3) :
    segEntryOf bytes = .run (addressAt bytes 0) (word16At bytes 3) :=
  if_neg (not_or.mpr ⟨hstart, Nat.ne_of_gt hcount⟩)

theorem segEntryOf_silent {bytes : List Byte} (h : addressAt bytes 0 = 0xFFFFFF ∨ word16At bytes 3 = 0) :
    segEntryOf bytes = .silent := if_pos h

/-- An empty segment entry heard as silence fills an empty buffer with two frames of its pair (R88, R111). -/
theorem walkOn_twoSilent {d : Descriptor} {pair : Nat} {p : Pair} (hp : d.pairs[pair - 1]? = some p) (hlength : 2 ≤ p.length)
    {c : Context} {ref : DescRef} (hplace : c.place = .pairs ref d pair 0 (some .silent)) :
    walkOn walkFuel c [] = ({ c with place := .pairs ref d pair 2 (some .silent), yielded := true },
      [{ sound := .silence, point := .pair ref c.chain pair }, { sound := .silence, point := .pair ref c.chain pair }],
      none) := by
  have hfirst : walkMove c.chain c.place = .silence (.pairs ref d pair 1 (some .silent)) := by
    rw [hplace]
    exact walkMove_silence hp (.inr rfl) (by omega) _ _
  have hpoint : placePoint c.chain c.place = .pair ref c.chain pair := by rw [hplace]; rfl
  refine (walkOn_silence (b := []) Nat.zero_lt_two 11 hfirst).trans ?_
  rw [hpoint]
  refine (walkOn_silence (b := [_]) Nat.one_lt_two 10 (walkMove_silence hp (.inr rfl) (by omega) _ _)).trans ?_
  exact walkOn_full (b := [_, _]) (Nat.le_refl 2) 10 _

/-- Settles O22: the segment's entry, the frame within its pair, and what follows a pair's last frame. -/
theorem walkFetchesFrames : Obligations.WalkFetchesFrames := by
  refine ⟨?_, ?_, ?_⟩
  · intro s v bytes c hcurrent t hport hrequester hkind hkept hwaiting ref d pair hplace p hp hlength hsegment start count
    have hexec := exec_segmentDirectoryFetch hrequester hkept hcurrent hport bytes hkind
    refine ⟨fun hstart hcount hroom => ?_, fun hempty hlong hbuffer => ?_⟩
    · rw [hexec, segEntryOf_run hstart hcount, takeSegment_takes hplace]
      have hwalk := walkOn_needs (c := { c with place := .pairs ref d pair 0 (some (.run start count)) }) hroom 11
        (walkMove_asksFrame hp hsegment hlength hcount _ _ _)
      refine congrArg Host.Outcome.next ((State.goOn_asks hwaiting hwalk (.inr nofun)).trans ?_)
      rw [frameAddress_zero]
    · rw [hexec, segEntryOf_silent hempty, takeSegment_takes hplace, hbuffer]
      exact congrArg Host.Outcome.next (State.goOn_rests hwaiting (walkOn_twoSilent hp hlong rfl) (.inl rfl))
  · intro s v bytes c hcurrent t hport hrequester hkind hkept hwaiting ref d pair frame start count hplace passed f
    have hexec := exec_frameFetch hrequester hkept hcurrent hport bytes hkind
    have hpoint : placePoint c.chain c.place = .pair ref c.chain pair := by rw [hplace]; rfl
    rw [passFrame_passes hplace, hpoint] at hexec
    refine ⟨fun hone => ?_, fun p hp hbuffer hsegment hframe hcount => ?_⟩
    · rw [hexec]
      exact congrArg Host.Outcome.next (State.goOn_rests hwaiting (walkOn_full (by simp [hone]) _ _) (.inl rfl))
    · rw [hexec, hbuffer]
      exact congrArg Host.Outcome.next (State.goOn_asks hwaiting (walkOn_needs (b := [f]) Nat.one_lt_two 11
        (walkMove_asksFrame hp hsegment hframe hcount _ _ _)) (.inl rfl))
  · intro s v bytes c hcurrent t hport hrequester hkind hkept hwaiting hbuffer ref d pair frame start count hplace hpairs hpair
      p hp hlength hsegment hpast f moved asked idle
    have hexec := exec_frameFetch hrequester hkept hcurrent hport bytes hkind
    have hpoint : placePoint c.chain c.place = .pair ref c.chain pair := by rw [hplace]; rfl
    rw [passFrame_passes hplace, hpoint, hbuffer] at hexec
    let passed : Context := { c with place := .pairs ref d (pair + 1) 0 none, yielded := true }
    have hmove : walkOn walkFuel { c with
        place := .pairs ref d pair (frame + 1) (some (.run start count)), yielded := true } [f] = walkOn 11 passed [f] :=
      walkOn_goesOn (b := [f]) Nat.one_lt_two 11 (walkMove_past hp hlength (.inr ⟨start, count, rfl, hsegment, hpast⟩) _ _)
    have hasks {place : WalkPlace} {more : List Fetched} {kind : TransferKind}
        (hwalk : walkOn 11 passed [f] = ({ c with place := place, yielded := true }, f :: more, some kind)) :
        exec (.frameFetch bytes) s = .next (moved place more (asked kind)) := by
      rw [hexec]
      exact congrArg Host.Outcome.next (State.goOn_asks hwaiting (hmove.trans hwalk) (.inl rfl))
    have hrests {place : WalkPlace} {more : List Fetched}
        (hwalk : walkOn 11 passed [f] = ({ c with place := place, yielded := true }, f :: more, none)) :
        exec (.frameFetch bytes) s = .next (moved place more idle) := by
      rw [hexec]
      exact congrArg Host.Outcome.next (State.goOn_rests hwaiting (hmove.trans hwalk) (.inl rfl))
    have hwithin : pair ≤ d.pairs.length := by
      have := (List.getElem?_eq_some_iff.mp hp).1
      omega
    refine ⟨fun hzero => ⟨fun hlink => ?_, fun hlink hchain => ?_, fun a hlink hchain hrom => ?_,
      fun n hlink hchain hram => ?_⟩, fun skipped q hq hlong hzero => ⟨fun hsound => ?_, fun hsilent => ?_⟩⟩
    · exact hrests (walkOn_ends (c := passed) hpairs ref rfl Nat.one_lt_two hwithin hzero hlink)
    · exact hrests (walkOn_cut (c := passed) hpairs ref rfl Nat.one_lt_two hwithin hzero hlink hchain)
    · exact hasks (walkOn_linkRom (c := passed) hpairs ref rfl Nat.one_lt_two hwithin hzero hlink hchain hrom)
    · exact hasks (walkOn_linkRam (c := passed) hpairs ref rfl Nat.one_lt_two hwithin hzero hlink hchain hram)
    · exact hasks (walkOn_nextSound (c := passed) (b := [f]) hpairs ref rfl Nat.one_lt_two hq hzero hlong hsound)
    · exact hrests (walkOn_nextSilent (c := passed) hpairs ref rfl hq hzero hlong hsilent)

/-! ## The port (R98 to R100, R109) -/

/-- A request that ranks below every waiting one comes first. -/
theorem insertTransfer_first {t : Transfer} {l : List Transfer} (h : ∀ u ∈ l, t.order < u.order) :
    insertTransfer t l = t :: l := by
  cases l with
  | nil => rfl
  | cons u l => exact if_pos (h u List.mem_cons_self)

theorem State.grant_busy {s : State} {t : Transfer} (h : s.port.inFlight = some t) : s.grant.port = s.port := by
  simp only [State.grant, h]

/-- A free port grants the first waiting request (R98). -/
theorem State.grant_free {s : State} (h : s.port.inFlight = none) :
    s.grant.port = { inFlight := s.port.waiting.head?, waiting := s.port.waiting.tail } := by
  cases hwaiting : s.port.waiting with
  | nil =>
    simp only [State.grant, h, hwaiting]
    exact congrArg₂ Port.mk h hwaiting
  | cons u l => simp only [State.grant, h, hwaiting, State.setPort, List.head?_cons, List.tail_cons]

theorem Transfer.order_frame {k : TransferKind} (h : k.isFrame = true) (d : Bool) :
    ({ requester := .voice .A, kind := k, discarded := d } : Transfer).order = 0 ∧
    ({ requester := .voice .B, kind := k, discarded := d } : Transfer).order = 1 := by
  cases k with
  | frame a => exact ⟨rfl, rfl⟩
  | _ => exact nomatch h

theorem Transfer.order_other {k : TransferKind} (h : k.isFrame = false) (d : Bool) :
    ({ requester := .voice .A, kind := k, discarded := d } : Transfer).order = 2 ∧
    ({ requester := .voice .B, kind := k, discarded := d } : Transfer).order = 3 := by
  cases k with
  | frame a => exact nomatch h
  | _ => exact ⟨rfl, rfl⟩

/-- A voice's transfer whose bytes are thrown away ends: its walk goes on from where it stands, whatever was carried (R100). -/
theorem exec_thrownAway {s u : State} {v : VoiceId} {t : Transfer} (hport : s.port.inFlight = some t)
    (hrequester : t.requester = .voice v) (hthrown : t.discarded = true)
    (hgoes : (s.transferEnds.goOn v).grant = u) (bytes : List Byte) :
    (t.kind.isPhraseDirectory = true → exec (.phraseDirectoryFetch bytes) s = .next u) ∧
    (t.kind.isSegmentDirectory = true → exec (.segmentDirectoryFetch bytes) s = .next u) ∧
    (t.kind.isRomDescriptor = true → exec (.romDescriptorFetch bytes) s = .next u) ∧
    (∀ n, t.kind.ramSlot = some n → exec .ramDescriptorFetch s = .next u) ∧
    (t.kind.isFrame = true → exec (.frameFetch bytes) s = .next u) := by
  have htakes (take : Context → Context) : s.transferEnds.voiceTakes v t take = s.transferEnds.goOn v := if_pos hthrown
  have harrives : s.transferEnds.frameArrives v t bytes = s.transferEnds.goOn v := if_pos hthrown
  subst hgoes
  refine ⟨fun hkind => ?_, fun hkind => ?_, fun hkind => ?_, fun n hkind => ?_, fun hkind => ?_⟩
  · refine (transferEvent_ends hport hkind (handPhraseEntry bytes)).trans ?_
    simp only [handPhraseEntry, hrequester, htakes]
  · refine (transferEvent_ends hport hkind (handSegment bytes)).trans ?_
    simp only [handSegment, hrequester, htakes]
  · refine (transferEvent_ends hport hkind (handDescriptor bytes)).trans ?_
    simp only [handDescriptor, hrequester, htakes]
  · have hfits : t.kind.ramSlot.isSome = true := by rw [hkind]; rfl
    refine (transferEvent_ends (fits := fun k => k.ramSlot.isSome) hport hfits handSlot).trans ?_
    simp only [handSlot, hrequester, htakes]
  · refine (transferEvent_ends hport hkind (handFrame bytes)).trans ?_
    simp only [handFrame, hrequester, harrives]

/-- Settles O23: where a request joins and what a free port grants; the end of bytes thrown away, at a QUIET voice and at one
whose new utterance waits for it. -/
theorem portGrantsAndFrees : Obligations.PortGrantsAndFrees := by
  refine ⟨⟨fun s r kind hordered => ?_, fun k d => ?_⟩, fun s v bytes t hport hrequester hthrown hquiet => ?_,
    fun s v bytes t hport hrequester hthrown hwaiting c hcurrent hroom kind hkind => ?_⟩
  · intro t
    refine ⟨insertTransfer_ordered hordered, insertTransfer_perm t _, fun u hu => State.grant_busy (s := s.ask r kind) hu,
      fun hfree hfirst => ?_, fun hfree => State.grant_free (s := s.ask r kind) hfree⟩
    rw [State.grant_free (s := s.ask r kind) hfree]
    exact congrArg List.head? (insertTransfer_first hfirst)
  · exact ⟨fun h => Transfer.order_frame h d, fun h => Transfer.order_other h d, rfl, rfl⟩
  · have hvoice : (s.transferEnds.voice v).current = none := by cases v <;> exact hquiet
    exact exec_thrownAway hport hrequester hthrown (by rw [State.goOn_quiet hvoice]) bytes
  · intro asked
    have hneeds : walkMove c.chain c.place = .needs kind ∧ ∀ o, c.place ≠ .finished o := by
      obtain ⟨p, hplace, rfl⟩ | ⟨n, pair, again, hplace, rfl⟩ | ⟨a, pair, again, hplace, rfl⟩ := hkind <;> rw [hplace] <;>
        exact ⟨rfl, nofun⟩
    have hself : s.transferEnds.setVoice v { s.voice v with current := some c, buffer := (s.voice v).buffer } =
        s.transferEnds := State.setVoice_self (by cases v <;> simp only [← hcurrent] <;> rfl)
    have hsame : s.setVoice v { s.voice v with current := some c, buffer := (s.voice v).buffer } = s :=
      State.setVoice_self (by simp only [← hcurrent])
    have hgoes := State.goOn_asks hwaiting (walkOn_needs hroom 11 hneeds.1) (.inr hneeds.2)
    rw [hself, hsame] at hgoes
    exact exec_thrownAway hport hrequester hthrown hgoes bytes

end Sys2Proof.Machine
end

section
/-! The frame boundary (R88 to R90, R98, R110 to R117): a frame rendered, an utterance that ends, one that is preempted. -/

namespace Sys2Proof.Machine

/-! ## What a boundary does (R112 to R114) -/

theorem State.boundary_quiet {s : State} {v : VoiceId} (h : (s.voice v).current = none) : s.boundary v = s := by
  simp only [State.boundary, h]

/-- A boundary at which the utterance neither ends nor is preempted renders a frame (R112). -/
theorem State.boundary_renders {s : State} {v : VoiceId} {c : Context} (hcurrent : (s.voice v).current = some c)
    (hqueue : ∀ e ∈ (s.voice v).queue, e.priority ≤ c.entry.priority)
    (hgoes : (s.voice v).buffer ≠ [] ∨ ∀ o, c.place ≠ .finished o) : s.boundary v = s.renderFrame v := by
  simp only [State.boundary, hcurrent]
  split
  · rename_i hplace hbuffer
    obtain h | h := hgoes
    · exact absurd hbuffer h
    · exact absurd hplace (h _)
  · split
    · rename_i e he
      exact if_neg (Nat.not_lt.mpr (hqueue e (queueHead_mem he)))
    · rfl

/-- A boundary after the last frame ends the utterance (R113). -/
theorem State.boundary_ends {s : State} {v : VoiceId} {c : Context} {o : SpokenOutcome}
    (hcurrent : (s.voice v).current = some c) (hbuffer : (s.voice v).buffer = []) (hplace : c.place = .finished o) :
    s.boundary v = (s.endCurrent v o).renderFrame v := by
  simp only [State.boundary, hcurrent, hplace, hbuffer]

/-- A boundary at which the queue head preempts (R114). -/
theorem State.boundary_preempts {s : State} {v : VoiceId} {c : Context} {e : Entry}
    (hcurrent : (s.voice v).current = some c) (hhead : queueHead (s.voice v).queue = some e)
    (hpriority : c.entry.priority < e.priority) (hgoes : (s.voice v).buffer ≠ [] ∨ ∀ o, c.place ≠ .finished o) :
    s.boundary v = (s.preempt v c e).renderFrame v := by
  simp only [State.boundary, hcurrent, hhead, if_pos hpriority]
  split
  · rename_i hplace hbuffer
    obtain h | h := hgoes
    · exact absurd hbuffer h
    · exact absurd hplace (h _)
  · rfl

/-! ## A frame rendered (R110 to R112) -/

theorem State.renderFrame_head {s : State} {v : VoiceId} {c : Context} {f : Fetched} {rest : List Fetched}
    (hcurrent : (s.voice v).current = some c) (hbuffer : (s.voice v).buffer = f :: rest) :
    s.renderFrame v = (s.setVoice v { s.voice v with
      current := some { c with rendered := true, restart := f.point }, buffer := rest, rendering := f.sound }).advance v := by
  simp only [State.renderFrame, hcurrent, hbuffer]

theorem State.renderFrame_empty {s : State} {v : VoiceId} {c : Context} (hcurrent : (s.voice v).current = some c)
    (hbuffer : (s.voice v).buffer = []) :
    s.renderFrame v =
      if c.rendered then (s.setVoice v { s.voice v with rendering := .silence }).setUnderruns (min 255 (s.underruns + 1))
      else s.setVoice v { s.voice v with rendering := .silence } := by
  have hunderruns (x : Voice) : (s.setVoice v x).underruns = s.underruns := by cases v <;> rfl
  simp only [State.renderFrame, hcurrent, hbuffer, hunderruns]
  rfl

theorem State.renderFrame_quiet {s : State} {v : VoiceId} (h : (s.voice v).current = none) : s.renderFrame v = s := by
  simp only [State.renderFrame, h]

/-- The boundary at which an utterance starts or resumes renders its waiting silence (log 29). -/
theorem State.renderFrame_started {s : State} {v : VoiceId} {c : Context} (hcurrent : (s.voice v).current = some c)
    (hbuffer : (s.voice v).buffer = []) (hsilence : (s.voice v).rendering = .silence) (hrendered : c.rendered = false) :
    s.renderFrame v = s := by
  rw [State.renderFrame_empty hcurrent hbuffer, hrendered, if_neg Bool.false_ne_true]
  exact State.setVoice_self (by simp only [← hsilence])

/-- A walk at its end does nothing more (R90). -/
theorem walkOn_finished {c : Context} {o : SpokenOutcome} (h : c.place = .finished o) (fuel : Nat) (b : List Fetched) :
    walkOn (fuel + 1) c b = (c, b, none) := by
  by_cases hroom : b.length < 2
  · exact walkOn_done hroom fuel (by rw [h]; rfl)
  · exact walkOn_full (Nat.not_lt.mp hroom) _ _

/-- A voice whose transfer is under way, or whose walk has finished, asks for nothing (R98). -/
theorem State.advance_still {s : State} {v : VoiceId} {c : Context} (hcurrent : (s.voice v).current = some c)
    (h : s.hasTransfer (.voice v) = true ∨ ∃ o, c.place = .finished o) : s.advance v = s := by
  by_cases hbusy : s.hasTransfer (.voice v) = true
  · exact State.advance_busy hbusy
  · obtain ⟨o, hplace⟩ := h.resolve_left hbusy
    rw [State.advance_rests hcurrent (Bool.eq_false_iff.mpr hbusy) (walkOn_finished hplace 11 _)]
    exact State.setVoice_self (by simp only [← hcurrent])

theorem setVoice_settled {s : State} (h : s.portSettled) (v : VoiceId) (x : Voice) : (s.setVoice v x).grant = s.setVoice v x :=
  State.grant_settled (portSettled_of_port_eq (State.setVoice_port s v x) h)

theorem exec_frameBoundary (s : State) (v : VoiceId) : exec (.frameBoundary v) s = .next (s.boundary v).grant := rfl

/-- Settles O24: the boundaries that ask for nothing, and those at which a full buffer's walk advances. -/
theorem boundaryRendersFrame : Obligations.BoundaryRendersFrame := by
  refine ⟨fun s v hsettled => ⟨fun hquiet => ?_, fun c hcurrent hqueue hbusy => ⟨fun f hf => ?_, fun hbuffer hrendered hplace => ?_,
    fun hbuffer hrendered hplace => ?_⟩, fun c hcurrent hqueue f hf o hplace => ?_⟩, ?_⟩
  · rw [exec_frameBoundary, State.boundary_quiet hquiet, State.grant_settled hsettled]
  · obtain ⟨rest, hbuffer⟩ := List.head?_eq_some_iff.mp hf
    rw [exec_frameBoundary, State.boundary_renders hcurrent hqueue (.inl (by rw [hbuffer]; exact List.cons_ne_nil _ _)),
      State.renderFrame_head hcurrent hbuffer, State.advance_busy (by simpa using hbusy), setVoice_settled hsettled, hbuffer]
    rfl
  · rw [exec_frameBoundary, State.boundary_renders hcurrent hqueue (.inr hplace), State.renderFrame_empty hcurrent hbuffer,
      hrendered, if_neg Bool.false_ne_true, setVoice_settled hsettled]
  · rw [exec_frameBoundary, State.boundary_renders hcurrent hqueue (.inr hplace), State.renderFrame_empty hcurrent hbuffer,
      hrendered, if_pos rfl]
    refine congrArg Host.Outcome.next (State.grant_settled ?_)
    exact portSettled_of_port_eq (State.setVoice_port s v { s.voice v with rendering := .silence }) hsettled
  · obtain ⟨rest, hbuffer⟩ := List.head?_eq_some_iff.mp hf
    rw [exec_frameBoundary, State.boundary_renders hcurrent hqueue (.inl (by rw [hbuffer]; exact List.cons_ne_nil _ _)),
      State.renderFrame_head hcurrent hbuffer,
      State.advance_still (c := { c with rendered := true, restart := f.point }) (by simp) (.inr ⟨o, hplace⟩),
      setVoice_settled hsettled, hbuffer]
    rfl
  · intro s v hsettled hfree c hcurrent hqueue f g hbuffer ref d pair frame seg hplace hpairs hpair p hp hlength moved silent asked
    let c1 : Context := { c with rendered := true, restart := f.point }
    let u := s.setVoice v { s.voice v with current := some c1, buffer := [g], rendering := f.sound }
    have hvoice : u.voice v = { s.voice v with current := some c1, buffer := [g], rendering := f.sound } := by simp [u]
    have hfree' : u.hasTransfer (.voice v) = false := by simpa [u] using hfree
    have hexec : exec (.frameBoundary v) s = .next (u.advance v).grant := by
      rw [exec_frameBoundary, State.boundary_renders hcurrent hqueue (.inl (by rw [hbuffer]; exact List.cons_ne_nil _ _)),
        State.renderFrame_head hcurrent hbuffer]
    have hasks {place : WalkPlace} {kind : TransferKind}
        (hwalk : walkOn 12 c1 [g] = ({ c1 with place := place }, [g], some kind)) :
        exec (.frameBoundary v) s = .next (moved place (asked kind)) := by
      have hadvance := State.advance_asks (s := u) (v := v) (c := c1) (by rw [hvoice]) hfree' (by rw [hvoice]; exact hwalk)
      rw [hexec, hadvance, State.grant_ask, hvoice, State.setVoice_setVoice]
      rw [State.portAsked_congr (s := s) (by rw [State.setVoice_port])]
    have hrests {c' : Context} {b : List Fetched} (hwalk : walkOn 12 c1 [g] = (c', b, none)) :
        exec (.frameBoundary v) s =
          .next (s.setVoice v { s.voice v with current := some c', buffer := b, rendering := f.sound }) := by
      have hadvance := State.advance_rests (s := u) (v := v) (c := c1) (by rw [hvoice]) hfree' (by rw [hvoice]; exact hwalk)
      rw [hexec, hadvance, hvoice, State.setVoice_setVoice, setVoice_settled hsettled]
    have hends {place : WalkPlace} (hwalk : walkOn 12 c1 [g] = ({ c1 with place := place }, [g], none)) :
        exec (.frameBoundary v) s = .next (moved place s.port) := by
      rw [hrests hwalk]
      cases v <;> rfl
    have hplace1 : c1.place = .pairs ref d pair frame seg := hplace
    have hpoint : placePoint c1.chain c1.place = .pair ref c.chain pair := by rw [hplace1]; rfl
    refine ⟨fun start count hrun hsegment hframe hcount => ?_, fun hsilent hframe => ?_, fun hpast => ?_⟩
    · refine hasks (walkOn_needs (b := [g]) Nat.one_lt_two 11 ?_)
      rw [hplace1, hrun]
      exact walkMove_asksFrame hp hsegment hframe hcount _ _ _
    · have hmove : walkMove c1.chain c1.place = .silence (.pairs ref d pair (frame + 1) seg) := by
        rw [hplace1]
        exact walkMove_silence hp hsilent hframe _ _
      refine hrests (c' := { c1 with place := .pairs ref d pair (frame + 1) seg, yielded := true })
        (b := [g, { sound := .silence, point := .pair ref c.chain pair }]) ?_
      rw [walkOn_silence (b := [g]) Nat.one_lt_two 11 hmove, hpoint]
      exact walkOn_full (b := [_, _]) (Nat.le_refl 2) 11 _
    · let passed : Context := { c1 with place := .pairs ref d (pair + 1) 0 none }
      have hmove : walkOn 12 c1 [g] = walkOn 11 passed [g] := by
        refine walkOn_goesOn (b := [g]) Nat.one_lt_two 11 ?_
        rw [hplace1]
        refine walkMove_past hp hlength (hpast.imp_right ?_) _ _
        rintro ⟨start, count, hrun, hsegment, hcount⟩
        exact ⟨start, count, hrun, hsegment, (Nat.min_le_right _ _).trans hcount⟩
      have hwithin : pair ≤ d.pairs.length := by
        have := (List.getElem?_eq_some_iff.mp hp).1
        omega
      refine ⟨fun hzero => ⟨fun hlink => ?_, fun hlink hchain => ?_, fun a hlink hchain hrom => ?_,
        fun n hlink hchain hram => ?_⟩, fun skipped q hq hlong hzero => ⟨fun hsound => ?_, fun hsilent => ?_⟩⟩
      · exact hends (hmove.trans (walkOn_ends (c := passed) hpairs ref rfl Nat.one_lt_two hwithin hzero hlink))
      · exact hends (hmove.trans (walkOn_cut (c := passed) hpairs ref rfl Nat.one_lt_two hwithin hzero hlink hchain))
      · exact hasks (hmove.trans (walkOn_linkRom (c := passed) hpairs ref rfl Nat.one_lt_two hwithin hzero hlink hchain hrom))
      · exact hasks (hmove.trans (walkOn_linkRam (c := passed) hpairs ref rfl Nat.one_lt_two hwithin hzero hlink hchain hram))
      · exact hasks (hmove.trans (walkOn_nextSound (c := passed) (b := [g]) hpairs ref rfl Nat.one_lt_two hq hzero hlong
          hsound))
      · exact hrests (hmove.trans (walkOn_nextSilent (c := passed) hpairs ref rfl hq hzero hlong hsilent))

end Sys2Proof.Machine
end

section
/-! A boundary that ends an utterance, and one that preempts it (R97, R100, R113 to R117, R120, R121). -/

namespace Sys2Proof.Machine

/-! ## What a voice turns to (R109, R116, R117) -/

/-- A context begins with the request of its first place (R98, R109, R117). -/
theorem State.begin_asks {s : State} {v : VoiceId} {c : Context} {kind : TransferKind}
    (hfree : s.hasTransfer (.voice v) = false) (hmove : walkMove c.chain c.place = .needs kind) :
    s.begin v c = (s.setVoice v { s.voice v with current := some c, buffer := [], rendering := .silence }).ask (.voice v)
      kind := by
  let u := s.setVoice v { s.voice v with current := some c, buffer := [], rendering := .silence }
  have hvoice : u.voice v = { s.voice v with current := some c, buffer := [], rendering := .silence } := by simp [u]
  have hadvance := State.advance_asks (s := u) (v := v) (c := c) (c' := c) (b := []) (kind := kind) (by rw [hvoice])
    (by simpa [u] using hfree) (by rw [hvoice]; exact walkOn_needs (b := []) Nat.zero_lt_two 11 hmove)
  refine Eq.trans hadvance ?_
  rw [hvoice, State.setVoice_setVoice]

theorem queueHead_singleton (e : Entry) : queueHead [e] = some e ∧ queueRest [e] = [] := by
  have hhead : queueHead [e] = some e := by
    cases h : queueHead [e] with
    | none => exact absurd (queueHead_eq_none.mp h) (List.cons_ne_nil _ _)
    | some x => rw [List.mem_singleton.mp (queueHead_mem h)]
  exact ⟨hhead, by simp [queueRest, hhead]⟩

/-- A boundary at which a voice begins a context renders its waiting silence; its request is granted at the end (R98, log
29). -/
theorem State.begin_boundary {s w : State} {v : VoiceId} {c : Context} {kind : TransferKind} (hport : w.port = s.port)
    (hfree : s.hasTransfer (.voice v) = false) (hmove : walkMove c.chain c.place = .needs kind)
    (hrendered : c.rendered = false) :
    ((w.begin v c).renderFrame v).grant =
      (w.setVoice v { w.voice v with current := some c, buffer := [], rendering := .silence }).setPort
        (s.portAsked (.voice v) kind) := by
  let x : Voice := { w.voice v with current := some c, buffer := [], rendering := .silence }
  have hbegins : w.begin v c = (w.setVoice v x).ask (.voice v) kind :=
    State.begin_asks (by rw [State.hasTransfer_congr hport, hfree]) hmove
  have hvoice : (w.begin v c).voice v = x := by
    rw [hbegins, State.ask_voice]
    simp
  rw [State.renderFrame_started (c := c) (by rw [hvoice]) (by rw [hvoice]) (by rw [hvoice]) hrendered, hbegins, State.grant_ask,
    State.portAsked_congr (s := s) (by rw [State.setVoice_port, hport])]

/-- A queue of one entry, above every context of the stack, is what a voice turns to (R116). -/
theorem State.chooseNext_starts {s : State} {v : VoiceId} {e : Entry} (hqueue : (s.voice v).queue = [e])
    (hstack : ∀ d ∈ (s.voice v).stack, d.entry.priority < e.priority) :
    s.chooseNext v = (s.setVoice v { s.voice v with queue := [] }).startEntry v e := by
  obtain ⟨hhead, hrest⟩ := queueHead_singleton e
  cases hs : (s.voice v).stack with
  | nil => simp only [State.chooseNext, hqueue, hs, hhead, hrest]
  | cons d rest =>
    have hlower : ¬ e.priority ≤ d.entry.priority := Nat.not_le.mpr (hstack d (by rw [hs]; exact List.mem_cons_self))
    simp only [State.chooseNext, hqueue, hs, hhead, hrest, if_neg hlower]

/-- A resume stack's top of at least the queue head's priority resumes (R116). -/
theorem State.chooseNext_resumes {s : State} {v : VoiceId} {d : Context} {rest : List Context}
    (hstack : (s.voice v).stack = d :: rest) (hqueue : ∀ e ∈ (s.voice v).queue, e.priority ≤ d.entry.priority) :
    s.chooseNext v = (s.setVoice v { s.voice v with stack := rest }).begin v d.resumed := by
  cases hhead : queueHead (s.voice v).queue with
  | none => simp only [State.chooseNext, hhead, hstack]
  | some e => simp only [State.chooseNext, hhead, hstack, if_pos (hqueue e (queueHead_mem hhead))]

theorem State.startContext_congr {s t : State} (h : t.setup = s.setup) : t.startContext = s.startContext := by
  funext v e
  simp only [State.startContext, State.loadedPitch, h]

/-! ## The end of an utterance (R113) -/

theorem State.post_setStore (s : State) (x : Store) (r : Record) : (s.setStore x).post r = (s.post r).setStore x := by
  rw [State.post, State.post, apply_ite (State.setStore · x)]
  rfl

/-- A voice whose unmarked utterance ends with nothing else held falls QUIET, and the utterance's slots are freed (R97,
R113). -/
theorem State.endCurrent_freed {s : State} {v : VoiceId} {c : Context} (hcurrent : (s.voice v).current = some c)
    (hqueue : (s.voice v).queue = []) (hstack : (s.voice v).stack = []) (hmark : c.entry.markNo = none)
    (o : SpokenOutcome) :
    s.endCurrent v o = ((if c.entry.tag = 0 then s else s.post (.spoken c.entry.tag o)).setVoice v Voice.quiet).setStore
      (s.store.freeStart c.entry.start) := by
  have hquiet : ({ s.voice v with current := none, buffer := [], rendering := .silence } : Voice) = Voice.quiet := by
    simp only [hqueue, hstack]
    rfl
  have hstore : (s.setVoice v Voice.quiet).store = s.store := by cases v <;> rfl
  have hended : (s.setVoice v Voice.quiet).endEntry false c.entry o =
      ((if c.entry.tag = 0 then s else s.post (.spoken c.entry.tag o)).setVoice v Voice.quiet).setStore
        (s.store.freeStart c.entry.start) := by
    simp only [State.endEntry, State.freeUtterance_eq, hmark, hstore, and_true, State.post_setStore, State.post_setVoice]
    by_cases htag : c.entry.tag = 0 <;> simp [htag]
  simp only [State.endCurrent, hcurrent]
  rw [hquiet, hended]
  refine State.chooseNext_quiet ?_
  cases v <;> rfl

/-- An unmarked phrase ends: its record, and the voice's next choice (R113, R116, R120). -/
theorem State.endCurrent_unmarked {s : State} {v : VoiceId} {c : Context} {p : Nat} (hcurrent : (s.voice v).current = some c)
    (hstart : c.entry.start = .phrase p) (hmark : c.entry.markNo = none) (o : SpokenOutcome) :
    s.endCurrent v o = ((if c.entry.tag = 0 then s else s.post (.spoken c.entry.tag o)).setVoice v
      { s.voice v with current := none, buffer := [], rendering := .silence }).chooseNext v := by
  simp only [State.endCurrent, hcurrent]
  rw [State.endEntry_phrase hstart hmark, State.post_setVoice]
  split <;> rfl

/-- Settles O25: what a voice turns to after an unmarked phrase; an ended mark at the round; an ended spelling's slots. -/
theorem boundaryEndsUtterance : Obligations.BoundaryEndsUtterance := by
  refine ⟨fun s v hsettled hfree hbuffer c hcurrent o p hplace hstart hmark => ?_,
    fun s v hsettled hbuffer hqueue hstack c hcurrent o hplace => ?_⟩
  · intro u asks
    have hunmarked : c.entry.markNo = none := by simpa [Entry.mark] using hmark
    let x : Voice := { s.voice v with current := none, buffer := [], rendering := .silence }
    let w := u.setVoice v x
    have hvoice : w.voice v = x := by simp [w]
    have huport : u.port = s.port := by
      simp only [u]
      split <;> simp
    have hport : w.port = s.port := (State.setVoice_port _ _ _).trans huport
    have hboundary : s.boundary v = (w.chooseNext v).renderFrame v := by
      rw [State.boundary_ends hcurrent hbuffer hplace, State.endCurrent_unmarked hcurrent hstart hunmarked]
    have hturns {y : Voice} {d : Context} {kind : TransferKind} (hchoose : w.chooseNext v = (w.setVoice v y).begin v d)
        (hmove : walkMove d.chain d.place = .needs kind) (hrendered : d.rendered = false) :
        exec (.frameBoundary v) s = .next (asks { y with current := some d, buffer := [], rendering := .silence } kind) := by
      rw [exec_frameBoundary, hboundary, hchoose, State.begin_boundary (s := s) ((State.setVoice_port _ _ _).trans hport) hfree
        hmove hrendered]
      simp only [w, State.setVoice_voice, State.setVoice_setVoice, asks]
    refine ⟨fun hqueue hstack => ?_, fun e he q hq htail hlower => ?_, fun d hd q hq hqueue => ?_⟩
    · have hquiet : w.voice v = Voice.quiet := by
        rw [hvoice]
        simp only [x, hqueue, hstack]
        rfl
      rw [exec_frameBoundary, hboundary, State.chooseNext_quiet hquiet, State.renderFrame_quiet (by rw [hquiet]; rfl),
        State.grant_settled (portSettled_of_port_eq hport hsettled)]
      exact congrArg (fun y => Host.Outcome.next (u.setVoice v y)) (hvoice.symm.trans hquiet)
    · obtain ⟨rest, hrest⟩ := List.head?_eq_some_iff.mp he
      have hone : (s.voice v).queue = [e] := by
        rw [hrest] at htail ⊢
        rw [show rest = [] from htail]
      let y : Voice := { w.voice v with queue := [] }
      have hsetup : (w.setVoice v y).setup = s.setup := by
        simp only [w, u]
        split <;> simp
      have hcontext : (w.setVoice v y).startContext v e = s.startContext v e := by
        rw [State.startContext_congr hsetup]
      have hchoose : w.chooseNext v = (w.setVoice v y).begin v (s.startContext v e) := by
        rw [← hcontext]
        exact State.chooseNext_starts (by rw [hvoice]; exact hone) (by rw [hvoice]; exact hlower)
      have hmove : walkMove (s.startContext v e).chain (s.startContext v e).place = .needs (.phraseDirectory q) := by
        simp [State.startContext, startPlace, hq, walkMove]
      rw [hturns hchoose hmove rfl]
      simp only [y, hvoice, x]
    · obtain ⟨rest, hrest⟩ := List.head?_eq_some_iff.mp hd
      let y : Voice := { w.voice v with stack := rest }
      have hchoose : w.chooseNext v = (w.setVoice v y).begin v d.resumed :=
        State.chooseNext_resumes (by rw [hvoice]; exact hrest) (by rw [hvoice]; exact hqueue)
      refine ⟨fun hrestart => ?_, fun a chain pair hrestart => ?_⟩
      · have hmove : walkMove d.resumed.chain d.resumed.place = .needs (.phraseDirectory q) := by
          simp [Context.resumed, hrestart, restartPlace, startPlace, hq, walkMove]
        rw [hturns hchoose hmove rfl]
        simp only [y, hvoice, x, Context.resumed, hrestart, restartPlace, restartChain, startPlace, hq, hrest, hbuffer]
        rfl
      · have hmove : walkMove d.resumed.chain d.resumed.place = .needs (.romDescriptor a) := by
          simp [Context.resumed, hrestart, restartPlace, walkMove]
        rw [hturns hchoose hmove rfl]
        simp only [y, hvoice, x, Context.resumed, hrestart, restartPlace, restartChain, hrest, hbuffer]
        rfl
  · intro u ended
    have huport : u.port = s.port := by
      simp only [u]
      split <;> simp
    have hround : ended.round = s.round := by
      simp only [ended, u]
      split <;> simp
    have hjudge : ended.judge = s.judge := by
      simp only [ended, u]
      split <;> simp
    have hsettled' {t : State} (ht : t.port = ended.port) : t.portSettled :=
      portSettled_of_port_eq (ht.trans ((State.setVoice_port _ _ _).trans huport)) hsettled
    refine ⟨fun n p hstart hmark => ?_, fun head hstart hmark => ?_⟩
    · have hends : s.boundary v = ended.markEnded n := by
        rw [State.boundary_ends hcurrent hbuffer hplace, State.endCurrent_quiet hcurrent hqueue hstack hstart, hmark]
        refine State.renderFrame_quiet ?_
        rw [State.markTold_voice]
        simp [Voice.quiet]
      have hexec {t : State} (ht : ended.markEnded n = t) (hport : t.port = ended.port) :
          exec (.frameBoundary v) s = .next t := by
        rw [exec_frameBoundary, hends, ht, State.grant_settled (hsettled' hport)]
      refine ⟨fun hother => ?_, fun hmarked => ⟨fun hstate => ?_, fun hstate => ?_, fun hstate => ?_⟩⟩
      · exact hexec (State.markEnded_other (by rw [hround]; exact hother)) rfl
      · rw [hexec (State.markEnded_soloOpening (by rw [hround, hmarked]) (by rw [hround, hstate])) rfl, hround]
        rfl
      · rw [hexec (State.markEnded_circleOpening (by rw [hround, hmarked]) (by rw [hround, hstate])) rfl, hround]
        rfl
      · rw [hexec (State.markEnded_soloReview (by rw [hround, hmarked]) (by rw [hround, hstate])) rfl, State.toIdle_eq,
          hround, hjudge]
    · let t := ended.setStore (s.store.freeStart c.entry.start)
      have hends : s.boundary v = t := by
        rw [State.boundary_ends hcurrent hbuffer hplace, State.endCurrent_freed hcurrent hqueue hstack hmark]
        refine State.renderFrame_quiet ?_
        cases v <;> rfl
      refine ⟨t, by rw [exec_frameBoundary, hends, State.grant_settled (s := t) (hsettled' rfl)], ?_, fun n => ?_⟩
      · exact congrArg ended.setStore (s.store.freeEntries_eq [c.entry])
      · show (s.store.freeStart c.entry.start).slot n = _
        rw [hstart]
        exact s.store.slot_free _ n

/-! ## Preemption (R100, R114, R115) -/

/-- The port once a voice's waiting request is withdrawn and its transfer's bytes are to be thrown away (R100). -/
theorem State.withdraw_hasTransfer (s : State) (r : Requester) :
    (s.withdraw r).hasTransfer r = s.port.inFlight.any (fun t => t.requester == r) := by
  have hwaiting : (s.withdraw r).port.waiting.any (fun t => t.requester == r) = false := by
    simp [State.withdraw, State.setPort]
  have hflight : (s.withdraw r).port.inFlight.any (fun t => t.requester == r) =
      s.port.inFlight.any (fun t => t.requester == r) := by
    cases h : s.port.inFlight with
    | none => simp [State.withdraw, State.setPort, h]
    | some t =>
      by_cases hr : t.requester = r <;> simp [State.withdraw, State.setPort, h, hr]
  rw [State.hasTransfer, hwaiting, hflight, Bool.or_false]

/-- The end of a mark that is not the round's tells it nothing (R68, log 15). -/
theorem State.markTold_other {s : State} {m : Option Nat} (h : m = none ∨ m ≠ s.round.marked) : s.markTold m = s := by
  cases m with
  | none => rfl
  | some n => exact State.markEnded_other (fun heq => (h.resolve_left (Option.some_ne_none n)) heq.symm)

/-- A boundary at which a voice, its request withdrawn, begins a context: its transfer in flight holds back the request that
it would make (R98, R100, R115). -/
theorem State.begin_preempting {s w : State} {v : VoiceId} {c : Context} {kind : TransferKind}
    (hport : w.port = (s.withdraw (.voice v)).port) (hmove : walkMove c.chain c.place = .needs kind)
    (hrendered : c.rendered = false) :
    ((w.begin v c).renderFrame v).grant =
      (w.setVoice v { w.voice v with current := some c, buffer := [], rendering := .silence }).setPort
        (if s.port.inFlight.any (fun t => t.requester == .voice v) then (s.withdraw (.voice v)).port
         else (s.withdraw (.voice v)).portAsked (.voice v) kind) := by
  have htransfer := s.withdraw_hasTransfer (.voice v)
  cases hflight : s.port.inFlight.any (fun t => t.requester == .voice v) with
  | false =>
    rw [if_neg Bool.false_ne_true]
    exact State.begin_boundary hport (htransfer.trans hflight) hmove hrendered
  | true =>
    let x : Voice := { w.voice v with current := some c, buffer := [], rendering := .silence }
    have hbusy : (w.setVoice v x).hasTransfer (.voice v) = true := by
      rw [State.setVoice_hasTransfer, State.hasTransfer_congr hport, htransfer, hflight]
    have hbegins : w.begin v c = w.setVoice v x := State.advance_busy hbusy
    have hsettled : (w.setVoice v x).portSettled := by
      intro hnone
      rw [State.setVoice_port, hport] at hnone
      cases h : s.port.inFlight with
      | none => simp [h] at hflight
      | some t => simp [State.withdraw, State.setPort, h] at hnone
    rw [hbegins, State.renderFrame_started (c := c) (by simp [x]) (by simp [x]) (by simp [x]) hrendered,
      State.grant_settled hsettled, if_pos rfl, ← hport, ← State.setVoice_port w v x]
    rfl

/-- Settles O26: the stack with room, and the context that falls off a full one. -/
theorem boundaryPreempts : Obligations.BoundaryPreempts := by
  intro s v hsettled c hcurrent e he p hstart htail hpriority hgoes started cut port
  obtain ⟨rest, hrest⟩ := List.head?_eq_some_iff.mp he
  have hone : (s.voice v).queue = [e] := by
    rw [hrest] at htail ⊢
    rw [show rest = [] from htail]
  have hboundary := State.boundary_preempts hcurrent (by rw [hone]; exact (queueHead_singleton e).1) hpriority hgoes
  have hexec {u : State} (stack : List Context) (hsetup : u.setup = s.setup)
      (hpreempts : s.preempt v c e =
        ((u.setVoice v { current := none, queue := [], stack := stack, buffer := [], rendering := .silence }).setPort
          cut).startEntry v e) :
      exec (.frameBoundary v) s = .next ((u.setVoice v (started stack)).setPort port) := by
    let w := (u.setVoice v { current := none, queue := [], stack := stack, buffer := [], rendering := .silence }).setPort cut
    have hcontext : w.startContext v e = s.startContext v e := by
      rw [State.startContext_congr (s := s) (by simpa [w] using hsetup)]
    have hmove : walkMove (s.startContext v e).chain (s.startContext v e).place = .needs (.phraseDirectory p) := by
      simp [State.startContext, startPlace, hstart, walkMove]
    have hvoice : w.voice v = { current := none, queue := [], stack := stack, buffer := [], rendering := .silence } := by
      cases v <;> rfl
    rw [exec_frameBoundary, hboundary, hpreempts]
    show Host.Outcome.next ((w.begin v (w.startContext v e)).renderFrame v).grant = _
    rw [hcontext, State.begin_preempting (s := s) (w := w) (v := v) (kind := .phraseDirectory p) rfl hmove rfl, hvoice]
    cases v <;> rfl
  have hcuts (x : Voice) : (s.setVoice v x).withdraw (.voice v) = (s.setVoice v x).setPort cut := by
    cases v <;> rfl
  refine ⟨fun hroom => ?_, fun d hd b hb q htwo hq hother => ?_⟩
  · refine hexec (u := s) (c :: (s.voice v).stack) rfl ?_
    have hpush : pushContext c (s.voice v).stack = (c :: (s.voice v).stack, []) :=
      congrArg₂ Prod.mk (List.take_of_length_le hroom) (List.drop_of_length_le hroom)
    simp only [State.preempt, hpush, hone, (queueHead_singleton e).2, List.foldl_nil]
    exact congrArg (State.startEntry · v e) (hcuts _)
  · obtain ⟨below, hstack⟩ := List.head?_eq_some_iff.mp hd
    obtain ⟨nothing, hbelow⟩ : ∃ nothing, below = b :: nothing := List.head?_eq_some_iff.mp (by rw [hstack] at hb; exact hb)
    have hempty : nothing = [] := by
      rw [hstack, hbelow] at htwo
      exact List.length_eq_zero_iff.mp (by simpa using htwo)
    have hpush : pushContext c (s.voice v).stack = ([c, d], [b]) := by
      rw [hstack, hbelow, hempty]
      rfl
    intro u
    have hround : u.round = s.round := by
      simp only [u]
      split <;> simp
    have hended (x : Voice) : ((s.setVoice v x).setPort cut).endEntry false b.entry .cut = (u.setVoice v x).setPort cut := by
      have hposted : (if b.entry.tag = 0 then (s.setVoice v x).setPort cut
          else ((s.post (.spoken b.entry.tag .cut)).setVoice v x).setPort cut) = (u.setVoice v x).setPort cut := by
        by_cases htag : b.entry.tag = 0
        · simp only [u, if_pos htag]
        · simp only [u, if_neg htag]
      have hkept : ((u.setVoice v x).setPort cut).round = s.round := by simp [hround]
      rw [State.endEntry_marked hq, State.post_setPort, State.post_setVoice, hposted, State.markTold_other]
      rw [hkept]
      exact hother
    refine hexec (u := u) [c, d] (by simp only [u]; split <;> simp) ?_
    simp only [State.preempt, hpush, hone, (queueHead_singleton e).2, List.foldl_cons, List.foldl_nil]
    exact congrArg (State.startEntry · v e) ((congrArg (State.endEntry · false b.entry .cut) (hcuts _)).trans (hended _))

end Sys2Proof.Machine
end
